-- ==== Sys2Proof/Word.lean ====
section
/-! DEFINITION. The word types of the EA-24: bytes of the two lines, and the 32-bit uptime count. -/

namespace Sys2Proof

/-- A byte of the command link or of the panel bus (R186, R146). -/
abbrev Byte := BitVec 8

/-- The free-running millisecond count, 32 bits, wrapping at its top value (00_scope, Time). -/
abbrev Uptime := BitVec 32

end Sys2Proof
end

