-- ==== Sys2Proof/Syntax.lean ====
section
/-! DEFINITION. The commands of the EA-24: one constructor per row of spec/opcode_table.json.
A request carries its tag and the LENGTH received (`Req`) and then the fields of its layout (R215, R216)
as the numbers the payload carries, so that a field outside its range, an undefined code or a wrong LENGTH
can be refused as R190 says. An event carries what it is about and what was seen. -/

namespace Sys2Proof

/-- The two axes of the transom (R91); index 0 and 1 in notices and events. -/
inductive AxisId where
  | platform | hatch
  deriving DecidableEq, Repr

/-- What cuts a frame that is being received (R188). -/
inductive CutCause where
  /-- The last byte of the command is a LENGTH above 240. -/
  | oversize
  /-- A byte with a framing error follows the bytes of the command. -/
  | framingError
  /-- More than 20 ms of quiet follow the bytes of the command, and then this byte arrives. -/
  | gap (next : Byte)
  deriving DecidableEq, Repr

/-- The tag of a request and the LENGTH of its frame (R187, R190 step 2). -/
structure Req where
  tag : Byte
  len : Nat
  deriving DecidableEq, Repr

/-- The fields of a SCENE_WRITE first part as carried (R216). -/
structure ScenePart where
  part : Nat
  slot : Nat
  kind : Nat
  m : Nat
  n : Nat
  fade : Nat
  dwell : Nat
  repeats : Nat
  endCode : Nat
  nameLen : Nat
  name : List Byte
  chans : List Nat
  levels : List Nat
  deriving DecidableEq, Repr

/-- The fields of a binding record as carried (R216). `match1` and `match2` are the 16-bit fields at
offsets 3 and 5; `p2` is signed. -/
structure BindingPart where
  index : Nat
  flags : Nat
  kind : Nat
  match1 : Nat
  match2 : Nat
  action : Nat
  busy : Nat
  p1 : Nat
  p2 : Int
  p3 : Nat
  zero : Nat
  deriving DecidableEq, Repr

/-- The commands. -/
inductive Instr where
  -- reset and start-up (R210, R211)
  | powerOn
  | supplyDip
  | startUpInputsSettled
  -- the command link (R188 to R201)
  | goodFrame (bytes : List Byte)
  | supervisionExpiry
  | replyOrNoticeSent
  -- requests taken (R190, R215)
  | requestUnknownKind (q : Req) (kind : Byte)
  | getStatus (q : Req)
  | setVesselData (q : Req) (speed source : Nat)
  | reset (q : Req)
  | channelSet (q : Req) (ch level fade : Nat)
  | channelGet (q : Req) (ch : Nat)
  | channelClearFault (q : Req) (ch : Nat)
  | sceneWriteFirstPart (q : Req) (p : ScenePart)
  | sceneWriteContinuation (q : Req) (slot first : Nat) (levels : List Nat)
  | writeLapsed
  | sceneRead (q : Req) (slot first : Nat)
  | sceneDelete (q : Req) (slot : Nat)
  | playerStart (q : Req) (player slot busy : Nat)
  | playerStopFinish (q : Req) (player kind : Nat)
  | playerStopAbort (q : Req) (player kind : Nat)
  | playerGet (q : Req) (player : Nat)
  | budgetGet (q : Req)
  | reserve (q : Req) (holder amount : Nat)
  | release (q : Req) (holder : Nat)
  | axisMove (q : Req) (axis target : Nat)
  | axisStop (q : Req) (which : Nat)
  | axisGet (q : Req) (axis : Nat)
  | axisClearFault (q : Req) (axis : Nat)
  | sequenceStart (q : Req) (kind : Nat)
  | windlassCommandLower (q : Req) (action target : Nat)
  | windlassCommandHoist (q : Req) (action target : Nat)
  | windlassCommandLowerTo (q : Req) (action target : Nat)
  | windlassCommandHoistHome (q : Req) (action target : Nat)
  | windlassCommandStop (q : Req) (action target : Nat)
  | windlassSetCount (q : Req) (count : Nat)
  | windlassClearFault (q : Req)
  | windlassGet (q : Req)
  | panelList (q : Req)
  | panelForget (q : Req) (address : Nat)
  | indicatorSet (q : Req) (address key mode colour : Nat)
  | bindingWrite (q : Req) (b : BindingPart)
  | bindingRead (q : Req) (index : Nat)
  | configWrite (q : Req) (sec item : Nat) (value : List Byte)
  | configRead (q : Req) (sec item : Nat)
  | commit (q : Req)
  | commitSectionDone (equal : Bool)
  | noticeEnable (q : Req) (set : Nat)
  -- load channels and players
  | fadeStep (ch : Fin 24)
  | dwellEnd (p : Fin 4)
  | currentConversion (ch : Fin 24) (raw : Nat)
  | shortCircuitReport (ch : Fin 24)
  | channelRetry (ch : Fin 24)
  | tripSeriesQuiet (ch : Fin 24)
  | openLoad (ch : Fin 24)
  | loadRestored (ch : Fin 24)
  | pairDeadTimeEnd (ch : Fin 24)
  | pairTimeout (ch : Fin 24)
  | beaconBlinkHalf
  | beaconStretchEnd
  -- the supply
  | supplyToBrownout
  | stateNormal
  | stateCritical
  -- inputs
  | levelFilterChange (n : Fin 16) (pin : Bool) (run : Nat)
  | stuck (n : Fin 16)
  | inputPulse (n : Fin 16) (run : Nat)
  | pulseStuck (n : Fin 16) (width : Nat)
  | analogConversion (n : Fin 4) (raw : Nat)
  | sensorOk (n : Fin 4) (raw : Nat)
  | chainSensorStateChange (a b : Bool)
  | stalenessTimerExpiry
  -- stern motion
  | unlatchTimeout (a : AxisId)
  | pumpLeadEnd
  | runOnEnd
  | latchTimeout (a : AxisId)
  | runTimeout (a : AxisId)
  | cooldownEnd (a : AxisId)
  | noProgress (a : AxisId)
  -- the windlass
  | brakingEnd
  | brakeFreeDelayEnd
  | jogOnEnd
  | jogOffEnd
  | disagreementQuiet
  | creepEnd
  | stall
  | thermalLockout
  | lockoutEnd
  | countCellWriteDone
  -- the panel bus
  | slotStart
  | capability (frame : List Byte)
  | short (frame : List Byte)
  | ack (frame : List Byte)
  | keys (frame : List Byte)
  | missedAnswer
  | deadman (panel : Fin 32) (key : Fin 16)
  | flashEnd (panel : Fin 32) (key : Fin 16)
  -- the receiver and the input filters
  | frameCheckFailed (bytes : List Byte)
  | frameCut (bytes : List Byte) (cause : CutCause)
  | inputSettled (n : Fin 16) (run : Nat)
  deriving DecidableEq, Repr

end Sys2Proof
end

