-- ==== Sys2Proof/Decode.lean ====
section
/-! DEFINITION. The rows of spec/opcode_table.json give no bits ("fields" is empty in every row), so no
word spells a command. What a command link frame spells is decoded in Machine/Requests.lean. -/

namespace Sys2Proof

/-- The command that a word spells by the table's bits: no row gives bits, so none. -/
def decodeTableWord (_nbits _w : Nat) : Option Instr := none

end Sys2Proof
end

