-- ==== Sys2Proof/Config.lean ====
section
/-! DEFINITION. What the part fixes for good and the spec does not state: free values, with no body. -/

namespace Sys2Proof

/-- The family code, member code and revision that GET_STATUS reports (R193), "as fixed in the part":
the spec gives no figure (log 7). -/
opaque Config.familyCode : Byte
/-- See `Config.familyCode` (log 7). -/
opaque Config.memberCode : Byte
/-- See `Config.familyCode` (log 7). -/
opaque Config.revisionCode : Byte

/-- Whether the PLAYER_DONE events of the moves to IDLE that a pending trigger's start makes are handed
to the Binding block before the event of the move that started them, or every event in the order in which the
moves were made: R56 says "in full, before step 5 of the first move" and also "in the order of the moves"
(log 8). -/
opaque Config.innerDoneFirst : Bool

/-- R88: whether, at the k-th change that reaches both the Permit block and a motion block with an effect
of both, the Permit block takes it first (log 11). -/
opaque Config.permitFirst : Nat → Bool

end Sys2Proof
end

