-- ==== Sys2Proof/Machine/Records.lean ====
section
/-! DEFINITION. The records of the EA-24's blocks: the enumerations in the order in which their fields list
them (so that a code of R213 is a position), the stored configuration, and the runtime records. -/

namespace Sys2Proof.Machine

/-! ### Statuses (R191) -/

/-- The outcome a reply carries (R191), in the order of its table. -/
inductive Status where
  | ok | unknownKind | badLength | outOfRange | notReady | busy | inUse | notFound | noSpace
  | notPermitted | interlock | noBudget | supplyLow | lockout | faulted | notFaulted | conflict | prot
  deriving DecidableEq, Repr

/-! ### Load channels (R1) -/

/-- A channel's type. -/
inductive ChType where
  | dimmed | switched | pairA | pairB | beacon | unused
  deriving DecidableEq, Repr

/-- Who may set a channel's target (R6). -/
inductive Owner where
  | none | player (p : Fin 4) | hostDirect | beacon | binding
  deriving DecidableEq, Repr

/-- A channel's fault state (R10, R11). -/
inductive ChFault where
  | ok | tripped | latched
  deriving DecidableEq, Repr

/-- The stored part of a channel record, with the factory defaults of R1. -/
structure ChCfg where
  type : ChType := .unused
  cls : Nat := 3
  rated : Nat := 0
  trip : Nat := 200
  openThr : Nat := 0
  partner : Nat := 0
  runTime : Nat := 60
  senseFull : Nat := 250
  deriving DecidableEq, Repr

/-- A running fade (R4, R5); `since` counts the ms since its last step. -/
structure Fade where
  start : Nat
  target : Nat
  elapsed : Nat
  time : Nat
  since : Nat
  deriving DecidableEq, Repr

/-- The runtime part of a channel record (R1), with the reset values of R18.
`pwm` is the duty of the running PWM period (R9); `tripAge` the ms since the last trip (R11); `openMs` the
applying time of R13; `runMs` the pair run timer (R15); `deadMs` the time the pair's dead-time timer has
run, kept at its PAIR_A channel (R14, log 14); `overMs` the time above the trip current, which pauses while the
output is off and starts anew at a conversion taken while it is off (R10, log 36); `offMs` how long the gate has
been off, up to 10 (R70). -/
structure Channel where
  level : Nat := 0
  granted : Nat := 0
  pwm : Nat := 0
  fade : Option Fade := Option.none
  owner : Owner := .none
  fault : ChFault := .ok
  retry : Nat := 0
  seriesStart : Option Uptime := Option.none
  tripAge : Option Nat := Option.none
  openFlag : Bool := false
  openMs : Nat := 0
  runMs : Option Nat := Option.none
  deadMs : Option Nat := Option.none
  current : Nat := 0
  overMs : Option Nat := Option.none
  offMs : Nat := 10
  deriving DecidableEq, Repr

/-- The beacon logic (R16, R17): `halfOn` the present half, `halfMs` the time spent in it, `stretch` the ms
left of the stretch timer. -/
structure Beacon where
  active : Bool := false
  blinking : Bool := false
  halfOn : Bool := false
  halfMs : Nat := 0
  stretch : Option Nat := none
  deriving DecidableEq, Repr

/-! ### Supply budget (R19 to R38) -/

/-- A feed of the house bus (R19). -/
inductive Source where
  | shore | gen1 | gen2 | battery
  deriving DecidableEq, Repr

/-- A holder of a reservation (R27). -/
inductive ResHolder where
  | stern | windlass | ext1 | ext2 | ext3 | ext4
  deriving DecidableEq, Repr

/-- The reservation table: at most one entry per holder, by its shape (R27). -/
structure Reservations where
  stern : Option Nat := none
  windlass : Option Nat := none
  ext1 : Option Nat := none
  ext2 : Option Nat := none
  ext3 : Option Nat := none
  ext4 : Option Nat := none
  deriving DecidableEq, Repr

/-- The supply state (R33). -/
inductive SupplyState where
  | normal | brownout | critical
  deriving DecidableEq, Repr

/-- The figures of the last evaluation (R21 to R23, R37). Before the first one every figure is 0, the source
BATTERY and the factors 1000: the model's choice (log 6). -/
structure Eval where
  source : Source := .battery
  limit : Nat := 0
  margin : Nat := 0
  reserved : Nat := 0
  avail : Nat := 0
  c0 : Nat := 0
  c1 : Nat := 0
  c2 : Nat := 0
  c3 : Nat := 0
  f1 : Nat := 1000
  f2 : Nat := 1000
  f3 : Nat := 1000
  rest : Nat := 0
  deriving DecidableEq, Repr

/-- The Supply Budget block. `dwell` is the state a running dwell leads to and the ms it has run (R33);
`held` says that R36 holds the state. -/
structure Budget where
  res : Reservations := {}
  last : Eval := {}
  budgetOver : Bool := false
  shedding : Bool := false
  supply : SupplyState := .normal
  dwell : Option (SupplyState × Nat) := none
  held : Bool := false
  deriving DecidableEq, Repr

/-! ### Scenes and players (R39 to R59) -/

/-- A scene's kind (R39). -/
inductive SceneKind where
  | static | sequence
  deriving DecidableEq, Repr

/-- What a SEQUENCE does after its last pass (R52). -/
inductive EndBehaviour where
  | holdLast | toFirst | allOff
  deriving DecidableEq, Repr

/-- A scene record (R39). A STATIC record has dwell, repeat count and end behaviour 0 (R216). -/
structure SceneRec where
  kind : SceneKind
  chans : List Nat
  steps : Nat
  rows : List (List Nat)
  fade : Nat
  dwell : Nat
  repeats : Nat
  endB : EndBehaviour
  name : List Byte
  deriving DecidableEq, Repr

/-- The open scene assembly (R41): `rec.rows` holds the rows received, `lapse` the ms left. -/
structure Assembly where
  slot : Nat
  rcd : SceneRec
  lapse : Nat
  deriving DecidableEq, Repr

/-- A player's state (R46). -/
inductive PlayerState where
  | idle | fading | dwell | stopping
  deriving DecidableEq, Repr

/-- How a run ended (R46). -/
inductive PlayerOutcome where
  | completed | stopped | aborted | superseded | empty
  deriving DecidableEq, Repr

/-- What started a run (R46). -/
inductive TrigSource where
  | host | keyBinding (b : Nat) | eventBinding (b : Nat)
  deriving DecidableEq, Repr

/-- How a trigger treats a busy player (R47). -/
inductive BusyMode where
  | restart | queue | ignore
  deriving DecidableEq, Repr

/-- A player's context (R46), with the reset values of R59. -/
structure Player where
  state : PlayerState := .idle
  scene : Option Nat := none
  step : Nat := 0
  repeats : Nat := 0
  endFade : Bool := false
  active : List Nat := []
  waiting : List Nat := []
  dwell : Option Nat := none
  source : TrigSource := .host
  pendingTrig : Option (Nat × TrigSource) := none
  outcome : PlayerOutcome := .empty
  deriving DecidableEq, Repr

/-- The Scene engine. `idleWork` holds the moves to IDLE of the present command whose steps 4 and 5 of R56
are still to be made; it is empty between commands. -/
structure SceneEngine where
  assembly : Option Assembly := none
  players : Vector Player 4 := Vector.replicate 4 {}
  idleWork : List (Fin 4 × PlayerOutcome) := []
  deriving DecidableEq, Repr

/-! ### Inputs (R60 to R74) -/

/-- A digital input's role (R60). -/
inductive DiRole where
  | platStowEnd | platOutEnd | platLatchFree | hatchClosedEnd | hatchOpenEnd | hatchLatchFree
  | anchorHome | footUp | footDown | swimZone | tenderCradle | shorePresent | commissionKey
  | general | unused
  deriving DecidableEq, Repr

/-- A digital input record (R60), with its factory defaults. -/
structure DiCfg where
  role : DiRole := .unused
  activeHigh : Bool := true
  pulse : Bool := false
  tStable : Nat := 20
  stuckLimit : Nat := 0
  pulseMin : Nat := 20
  pulseMax : Nat := 1000
  deriving DecidableEq, Repr

/-- A digital input's runtime state (R61): `pin` the level last sampled (HIGH is true), `run` the length of
the run of like samples, `since` the time since the last change of the filtered state. In PULSE mode the
filtered state is active from a pulse's first active sample to its end, and `since` counts from that first
sample; in the active run of a reset it counts from the reset (R64). -/
structure DiRt where
  pin : Bool := false
  run : Nat := 0
  filtered : Bool := false
  settled : Bool := false
  stuck : Bool := false
  since : Nat := 0
  deriving DecidableEq, Repr

/-- An analog input's role (R67). -/
inductive AiRole where
  | platPosition | hatchPosition | busVoltage | windlassCurrent | unused
  deriving DecidableEq, Repr

/-- An analog input record (R67), with its factory defaults. -/
structure AiCfg where
  role : AiRole := .unused
  rawLo : Nat := 0
  rawHi : Nat := 4095
  eLo : Nat := 0
  eHi : Nat := 1000
  margin : Nat := 100
  deriving DecidableEq, Repr

/-- An analog input's runtime state (R68, R69): the value, absent while invalid; whether a conversion has
been made since the reset; SENSOR_FAULT; the recovery time; the raw count of the last conversion. -/
structure AiRt where
  value : Option Nat := none
  converted : Bool := false
  fault : Bool := false
  recovery : Option Nat := none
  lastRaw : Nat := 0
  deriving DecidableEq, Repr

/-- The chain decoder (R71): whether it runs, the sensor state (CHA, CHB) as the filtered phase inputs last
showed it, which they show also while the decoder does not run (R73, log 13), and the accumulator of quarter
steps. -/
structure ChainDec where
  running : Bool := false
  sensor : Bool × Bool := (false, false)
  acc : Int := 0
  deriving DecidableEq, Repr

/-- The Input block. -/
structure Inputs where
  di : Vector DiRt 16 := Vector.replicate 16 {}
  ai : Vector AiRt 4 := Vector.replicate 4 {}
  chain : ChainDec := {}
  deriving DecidableEq, Repr

/-! ### Vessel state and permit terms (R75 to R90) -/

/-- The vessel state record (R75). FRESH is `stale = some left`: the staleness timer is present while the
record is FRESH. The device state is held once, with the command link. -/
structure Vessel where
  speed : Nat := 0
  source : Source := .battery
  fresh : Option Nat := none
  active : Source := .battery
  anchored : Bool := false
  deriving DecidableEq, Repr

/-- What a permit term applies to (R83). -/
inductive Subject where
  | platform | hatch | windlass
  deriving DecidableEq, Repr

/-- A direction of motion (R83, R85). -/
inductive Dir where
  | outward | inward
  deriving DecidableEq, Repr

/-- The direction a term names (R83). -/
inductive TermDir where
  | outward | inward | any
  deriving DecidableEq, Repr

/-- A term's condition (R83); its parameter is a field of its own. -/
inductive Cond where
  | speedBelow | inputActive | inputInactive | anchored | notAnchored | sourceIs | linked
  deriving DecidableEq, Repr

/-- A permit term (R83), with its factory defaults. -/
structure Term where
  enabled : Bool := false
  continuous : Bool := false
  subject : Subject := .platform
  dir : TermDir := .any
  cond : Cond := .linked
  param : Nat := 0
  group : Nat := 0
  deriving DecidableEq, Repr

/-- A fixed geometry interlock (R81); its code is its position, from 1 (R213). -/
inductive Interlock where
  | platformNotClear | hatchMoving | hatchNotStowed | tenderInPath | latchOpen
  deriving DecidableEq, Repr

/-! ### Stern motion (R91 to R117) -/

/-- An axis's state (R91). -/
inductive AxState where
  | stowed | unlatching | extending | retracting | latching | extended | halted | fault
  deriving DecidableEq, Repr

/-- The party that controls an axis (R91). -/
inductive AxHolder where
  | none | host | panel (address key : Nat) | sequence | bindingAuto
  deriving DecidableEq, Repr

/-- Why an axis faulted (R91). -/
inductive AxCause where
  | latch | runTimeout | noProgress | positionSensor | permit | interlock | supply
  deriving DecidableEq, Repr

/-- An axis's fault record (R91). -/
structure AxFaultRec where
  cause : AxCause
  state : AxState
  position : Option Nat
  runMs : Nat
  detail : Nat
  deriving DecidableEq, Repr

/-- An axis record (R91). The position is the value of the axis's position input. `window` is the progress
window: its start position and the ms since its start (R102). The cooldown is the ms left, absent when
there is none (log 23). -/
structure Axis where
  state : AxState := .halted
  target : Nat := 0
  holder : AxHolder := .none
  phaseMs : Nat := 0
  runMs : Nat := 0
  window : Option (Nat × Nat) := Option.none
  latchHold : Bool := false
  cooldown : Option Nat := Option.none
  fault : Option AxFaultRec := Option.none
  deriving DecidableEq, Repr

/-- The pump (R92). -/
inductive Pump where
  | off | lead | running | runOn
  deriving DecidableEq, Repr

/-- The hydraulic pack record (R92). `lead` is the PUMP_LEAD the running lead is judged against (R93: it
applies at the switch-on). -/
structure Pack where
  pump : Pump := .off
  axis : Option AxisId := none
  onMs : Nat := 0
  lead : Nat := 0
  runOn : Nat := 0
  valve : Option (AxisId × Dir) := none
  flow : Nat := 0
  deriving DecidableEq, Repr

/-- A stern sequence's state (R110). -/
inductive SeqState where
  | idle | step1 | step2 | done | aborted
  deriving DecidableEq, Repr

/-- A stern sequence's kind (R110). -/
inductive SeqKind where
  | garageOpen | garageClose
  deriving DecidableEq, Repr

/-- Who started a sequence (R110). -/
inductive SeqHolder where
  | host | panel (address key : Nat) | bindingAuto
  deriving DecidableEq, Repr

/-- Why a sequence was aborted (R110). -/
inductive SeqCause where
  | refused (s : Status) | faulted (c : AxCause) | stopped
  deriving DecidableEq, Repr

/-- The sequence context (R110). The end cause is the step and why. -/
structure Seq where
  state : SeqState := .idle
  kind : Option SeqKind := none
  axis : Option AxisId := none
  holder : SeqHolder := .host
  ended : Option (Nat × SeqCause) := none
  deriving DecidableEq, Repr

/-- What the sequence is told (R113): an axis has reached a state, has been stopped or has faulted; an
AXIS_STOP has been taken. -/
inductive SeqEvent where
  | reached (a : AxisId) (st : AxState)
  | stopped (a : AxisId)
  | named
  | faulted (a : AxisId) (c : AxCause)
  deriving DecidableEq, Repr

/-- The Stern Motion block. `seqCount` numbers the sequences started since the reset, so that what is told to
one is never taken by a later one; `seqWork` holds what a sequence, by its number, has been told and has not
yet taken: both are the model's own (log 55), and `seqWork` is empty between commands. `clearance` is the
HATCH_CLEARANCE that the last judgement of the platform's clear state took (R80). -/
structure Stern where
  platform : Axis := {}
  hatch : Axis := {}
  pack : Pack := {}
  seq : Seq := {}
  clearance : Nat := 600
  seqCount : Nat := 0
  seqWork : List (Nat × SeqEvent) := []
  deriving DecidableEq, Repr

/-! ### Windlass (R118 to R145) -/

/-- The windlass state (R118). -/
inductive WlState where
  | idle | lowering | hoisting | jogging | freeFall | braking | lockout | fault
  deriving DecidableEq, Repr

/-- Who runs the windlass (R118). -/
inductive WlHolder where
  | none | host | panel (address key : Nat) | foot | bindingAuto
  deriving DecidableEq, Repr

/-- What a run aims at (R118). -/
inductive WlMode where
  | hold | lowerTo | hoistHome
  deriving DecidableEq, Repr

/-- How far the count can be trusted (R122). -/
inductive CountStatus where
  | verified | restored | drifted
  deriving DecidableEq, Repr

/-- Why the windlass faulted (R118). -/
inductive WlCause where
  | homeMissing | chainReversed | stall | currentSensor | permit | supply
  deriving DecidableEq, Repr

/-- Why the windlass was stopped, in the order in which R132 names the causes. -/
inductive StopCause where
  | hostStop | release | deadman | linkDown | standalone | conflict | target | rodEnd | home | overspeed
  | thermal
  deriving DecidableEq, Repr

/-- The state BRAKING leads to (R118). -/
inductive BrakingEnd where
  | idle | lockout | fault
  deriving DecidableEq, Repr

/-- The windlass fault record (R118). -/
structure WlFaultRec where
  cause : WlCause
  state : WlState
  count : Nat
  current : Option Nat
  detail : Nat
  deriving DecidableEq, Repr

/-- The source of a hold against the windlass (R140). -/
inductive HoldSource where
  | footDown | footUp | panel (address key : Nat)
  deriving DecidableEq, Repr

/-- What a hold asks for (R140): a foot's direction, or a panel's UP, DOWN or FREE_FALL. -/
inductive HoldKind where
  | up | down | freeFall
  deriving DecidableEq, Repr

/-- An entry of the hold list (R140). -/
structure Hold where
  source : HoldSource
  kind : HoldKind
  deriving DecidableEq, Repr

/-- The windlass record (R118), its outputs (R119) and its clocks, with the reset values of R145.
`phaseMs` is the time in BRAKING or in the jog phase, by which BRAKE_FREE waits out its 100 ms too; `coolMs` the ms
toward the next fall of T (R138, log 100); `quietMs` the time since the
last pulse (R135); `creep` the net pulses and the time since the last pulse (R136); `stall` the time above
STALL_CURRENT with the STALL_TIME taken at the last current value (R120, R137); `lastOut` and `lastGap` the
last OUT pulse of a free fall and the interval before it, if that was short (R131); `lastCurrent` the last
valid value of the WINDLASS_CURRENT input since the reset, absent before the first, which a fault record
takes (R118). -/
structure Windlass where
  state : WlState := .idle
  holder : WlHolder := .none
  mode : Option WlMode := Option.none
  target : Option Nat := Option.none
  count : Nat := 0
  status : CountStatus := .drifted
  disagree : Nat := 0
  heat : Nat := 0
  coolMs : Nat := 0
  jogs : Nat := 0
  jogOn : Bool := false
  phaseMs : Nat := 0
  errors : Nat := 0
  driftNoted : Bool := false
  brakingEnd : Option BrakingEnd := Option.none
  conflict : Bool := false
  holds : List Hold := []
  creep : Option (Int × Nat) := Option.none
  faultRec : Option WlFaultRec := Option.none
  up : Bool := false
  down : Bool := false
  brakeFree : Bool := false
  quietMs : Nat := 0
  stall : Option (Nat × Nat) := Option.none
  lastOut : Option Uptime := Option.none
  lastGap : Option Nat := Option.none
  lastCurrent : Option Nat := Option.none
  deriving DecidableEq, Repr

/-! ### Panel bus (R146 to R169) -/

/-- A panel's link state (R148). -/
inductive Link where
  | absent | joining | up | failing | down | incompatible
  deriving DecidableEq, Repr

/-- What a panel's keys can show (R148). -/
inductive IndKind where
  | none | mono | rgb
  deriving DecidableEq, Repr

/-- What a panel key holds (R148). -/
inductive HoldSubject where
  | platform | hatch | sequence | windlass
  deriving DecidableEq, Repr

/-- A holding with the ms left of its deadman (R148, R166). -/
structure Holding where
  key : Nat
  subject : HoldSubject
  deadman : Nat
  deriving DecidableEq, Repr

/-- What a panel said of itself (R148, R150): versions as bits (bit v - 1 for version v). -/
structure Caps where
  versions : Nat
  keyCount : Nat
  indKind : IndKind
  canReport : Bool
  deriving DecidableEq, Repr

/-- An entry of the panel table (R148), with its reset values. The holder flag is set while the holdings
are not empty. -/
structure Panel where
  link : Link := .absent
  caps : Option Caps := none
  legacy : Bool := false
  version : Option Nat := none
  assignPending : Bool := false
  good : Nat := 0
  miss : Nat := 0
  holdings : List Holding := []
  deriving DecidableEq, Repr

/-- The kinds of call (R149). -/
inductive CallKind where
  | discover | assign | poll
  deriving DecidableEq, Repr

/-- The kinds of answer (R217). -/
inductive AnswerKind where
  | capability | short | ack | keys
  deriving DecidableEq, Repr

/-- What the running slot has brought so far: nothing, a miss (R146, R147), or the frame of an answer of a kind,
which is judged as the slot ends (R155, log 60). -/
inductive SlotAnswer where
  | awaited | missed
  | came (kind : AnswerKind) (frame : List Byte)
  deriving DecidableEq, Repr

/-- The call of the running slot, until the slot is judged at its end (R146, R155), with its frame's bytes and
what the slot has brought. -/
structure Call where
  panel : Fin 32
  kind : CallKind
  frame : List Byte
  answer : SlotAnswer
  deriving DecidableEq, Repr

/-- The Panel Bus block. Panels are indexed by address less 1. `fast` is the fast-poll list, `fastNext` its
round-robin pointer (R157); `lastFast` whether the last slot was a fast slot; `walked` the addresses the
rotation has passed (it stands at address `walked`, 0 at its start); `discovering` that the running slot is
the discovery slot that ends the rotation, after which the rotation count advances (R158); `slotMs` the time
in the running slot, absent before the first. -/
structure PanelBus where
  panels : Vector Panel 32 := Vector.replicate 32 {}
  fast : List (Fin 32) := []
  fastNext : Nat := 0
  lastFast : Bool := false
  walked : Nat := 0
  rotation : Nat := 0
  discovery : Fin 32 := 0
  discovering : Bool := false
  slotMs : Option Nat := none
  call : Option Call := none
  deriving DecidableEq, Repr

/-! ### Bindings and indicators (R170 to R185) -/

/-- The kinds of key event (R161). -/
inductive KeyKind where
  | press | release | hold | held
  deriving DecidableEq, Repr

/-- The internal event codes, in the order of R172's table. -/
inductive EvCode where
  | playerDone | inputActive | inputInactive | inputPulse | axisStart | axisExtended | axisStowed
  | axisHalted | axisFault | sequenceEnd | windlassStart | windlassStopped | windlassFault
  | anchoredSet | anchoredClear
  deriving DecidableEq, Repr

/-- An event the Binding block may match (R171, R172). -/
inductive Event where
  | key (address key : Nat) (kind : KeyKind)
  | internal (code : EvCode) (subject : Nat) (value : Option Nat)
  deriving DecidableEq, Repr

/-- The actions, in the order of R170. -/
inductive Action where
  | sceneStart | sceneStop | channelSet | channelToggle | channelStep | axisHold | axisGo | axisStop
  | sequenceStart | windlassHold | windlassAuto | windlassStop | notify
  deriving DecidableEq, Repr

/-- A binding (R170), with its factory defaults. `event` is the source EVENT; `kind` the key kind or the
event code's position; `match1`, `match2` the key match and mask, or, for EVENT, the subject match and mask
(low and high byte of `match1`) and the value filter (low byte of `match2`, 255 for ANY), as R216 lays the
record out. -/
structure Binding where
  enabled : Bool := false
  event : Bool := false
  kind : Nat := 0
  match1 : Nat := 0
  match2 : Nat := 511
  action : Action := .notify
  busy : BusyMode := .ignore
  p1 : Nat := 0
  p2 : Int := 0
  p3 : Nat := 0
  deriving DecidableEq, Repr

/-- An event waiting in the event list, its chain depth and the binding whose action raised it (R173). -/
structure Queued where
  event : Event
  depth : Nat
  raisedBy : Nat
  deriving DecidableEq, Repr

/-- An indicator mode (R181, R213). -/
inductive IndMode where
  | off | on | blinkSlow | blinkFast | flash
  deriving DecidableEq, Repr

/-- An indicator colour (R184, R213). -/
inductive Colour where
  | green | amber | red | white | blue
  deriving DecidableEq, Repr

/-- The Binding block. `acting` is the event being acted on: its depth and the acting binding (absent
between commands). `overrides` and `flashes` are the indicator table's entries that are not empty, keyed by
16 * (address - 1) + key, in rising order of the key (R181). -/
structure BindBlock where
  counts : Vector Nat 64 := Vector.replicate 64 0
  events : List Queued := []
  startUp : List Event := []
  dropped : Nat := 0
  droppedStartUp : Nat := 0
  acting : Option (Nat × Nat) := none
  overrides : List (Nat × (IndMode × Colour)) := []
  flashes : List (Nat × Nat) := []
  deriving DecidableEq, Repr

/-! ### The command link and notices (R186 to R202) -/

/-- The device state (R199). -/
inductive DevState where
  | starting | standalone | linked
  deriving DecidableEq, Repr

/-- The notice classes, in the order of R195. -/
inductive NClass where
  | channel | scene | supply | input | motion | windlass | panel | key | binding | device
  deriving DecidableEq, Repr

/-- The notices, class by class in the order of R214's table. -/
inductive Note where
  | tripped | retried | latched | cleared | openLoad | loadRestored | pairTimeout
  | playerStarted | playerDone | writeLapsed
  | stateNormal | stateBrownout | stateCritical | overSet | overCleared | shedOn | shedOff
  | inActive | inInactive | inStuck | stuckCleared | inPulse | sensorFault | sensorOk
  | axStarted | axExtended | axStowed | axHalted | axFault | axFaultCleared | cooldownEnd | sequenceEnd
  | wlStarted | wlStopped | wlFault | wlFaultCleared | startRefused | wlHoldIgnored | thermalLockout
  | lockoutEnd | overspeed | homeSet | countDrifted | countSet | creepStart | creepEnd | wlConflict
  | conflictCleared | anchoredSet | anchoredClear
  | joined | linkUp | linkFailing | linkDown | lost | incompatible | rejoined | forgotten
  | eventDiscarded | deadman | holdIgnored
  | keyPress | keyRelease | keyHold | keyHeld
  | refused | notified | chainLimit | eventsDropped
  | vesselFresh | vesselStale | sourceChanged | hostLost | hostBack | started | commitDone | commitFailed
  deriving DecidableEq, Repr

/-- A notice record (R195). -/
structure Notice where
  stamp : Uptime
  note : Note
  subject : Nat
  values : List Int
  deriving DecidableEq, Repr

/-- The receiver's states (R188). -/
inductive RxState where
  | hunt | header | payload | check
  deriving DecidableEq, Repr

/-- The receiver (R188): `held` the bytes of the frame after SYNC, `lastAt` when the last byte came. -/
structure Receiver where
  state : RxState := .hunt
  held : List Byte := []
  lastAt : Uptime := 0
  checkFailures : Nat := 0
  cutFrames : Nat := 0
  dropped : Nat := 0
  deriving DecidableEq, Repr

/-- A good frame waiting in the request list (R189). -/
structure Frame where
  kind : Byte
  tag : Byte
  payload : List Byte
  deriving DecidableEq, Repr

/-- A formed reply (R190, R191). -/
structure Reply where
  kind : Byte
  tag : Byte
  status : Status
  detail : Nat
  result : List Byte
  deriving DecidableEq, Repr

/-- What the transmitter is sending (R192): a reply, or the oldest notice of the queue; with its bytes. -/
structure Sending where
  notice : Bool
  bytes : List Byte
  ms : Nat
  deriving DecidableEq, Repr

/-- The Command Link block, with the reset values of R202. `enabled` is the set of enabled classes, bit n
for class n. `supervision` is the ms left of the timer; `aloneMs` the time spent in STANDALONE; `wasLinked`
whether the device has been LINKED since the reset; `resetReply` whether a RESET reply has been formed. -/
structure CmdLink where
  device : DevState := .starting
  rx : Receiver := {}
  requests : List Frame := []
  replies : List Reply := []
  sending : Option Sending := none
  queue : List Notice := []
  overflow : Bool := false
  enabled : BitVec 10 := 0x377
  supervision : Option Nat := none
  aloneMs : Nat := 0
  wasLinked : Bool := false
  resetReply : Bool := false
  deriving DecidableEq, Repr

/-! ### Stored configuration (R203) -/

/-- GENERAL. -/
structure GeneralSec where
  di : Vector DiCfg 16 := Vector.replicate 16 {}
  ai : Vector AiCfg 4 := Vector.replicate 4 {}
  shoreInputWins : Bool := false
  supervision : Nat := 1000
  deriving DecidableEq, Repr

/-- CHANNELS. -/
structure ChannelsSec where
  ch : Vector ChCfg 24 := Vector.replicate 24 {}
  beaconStretch : Nat := 3000
  deriving DecidableEq, Repr

/-- PANEL_OPTIONS: VERSION_SET as bits, bit v - 1 for version v. -/
structure PanelSec where
  versionSet : Nat := 7
  autoFromPanels : Bool := false
  deriving DecidableEq, Repr

/-- The figures of one axis (R93). -/
structure AxisCfg where
  amount : Nat
  flowFull : Nat := 1000
  flowCreep : Nat := 300
  slowZone : Nat := 80
  pumpLead : Nat := 500
  deriving DecidableEq, Repr

/-- AXES. -/
structure AxesSec where
  platform : AxisCfg := { amount := 400 }
  hatch : AxisCfg := { amount := 300 }
  stowAfterClose : Bool := false
  deriving DecidableEq, Repr

/-- WINDLASS (R120). -/
structure WindlassSec where
  amount : Nat := 900
  pitch : Nat := 250
  maxRod : Nat := 400
  jogZone : Nat := 20
  anchoredMin : Nat := 150
  deriving DecidableEq, Repr

/-- SUPPLY (R19). -/
structure SupplySec where
  shore : Nat := 1000
  gen1 : Nat := 1600
  gen2 : Nat := 1600
  battery : Nat := 600
  deriving DecidableEq, Repr

/-- LIMITS. -/
structure LimitsSec where
  margin : Nat := 100
  uvShed : Nat := 2300
  uvStop : Nat := 2100
  uvHyst : Nat := 50
  hatchClearance : Nat := 600
  platMinTarget : Nat := 300
  garagePos : Nat := 700
  runLimitPlat : Nat := 45000
  runLimitHatch : Nat := 30000
  cooldownPlat : Nat := 60
  cooldownHatch : Nat := 60
  stallCurrent : Nat := 1500
  stallTime : Nat := 1500
  tMax : Nat := 120000
  freefallMin : Nat := 150
  deadman : Nat := 150
  terms : Vector Term 16 := Vector.replicate 16 {}
  deriving DecidableEq, Repr

/-- The working copy: the nine sections (R203). -/
structure Cfg where
  general : GeneralSec := {}
  channels : ChannelsSec := {}
  scenes : Vector (Option SceneRec) 64 := Vector.replicate 64 none
  bindings : Vector Binding 64 := Vector.replicate 64 {}
  panels : PanelSec := {}
  axes : AxesSec := {}
  windlass : WindlassSec := {}
  supply : SupplySec := {}
  limits : LimitsSec := {}
  deriving DecidableEq, Repr

/-- A slot of the count cell: its count and sequence number (R209). A slot whose check fails is absent; one whose
count lies above 9999 is not valid either (`validSlot`). -/
structure CellSlot where
  count : Nat
  seq : Nat
  deriving DecidableEq, Repr

/-- The nonvolatile memory: the stored copy, a section absent while its CRC-16 fails, the completion mark
(R203, R206), and the two slots of the count cell (R209). -/
structure Nv where
  general : Option GeneralSec := none
  channels : Option ChannelsSec := none
  scenes : Option (Vector (Option SceneRec) 64) := none
  bindings : Option (Vector Binding 64) := none
  panels : Option PanelSec := none
  axes : Option AxesSec := none
  windlass : Option WindlassSec := none
  supply : Option SupplySec := none
  limits : Option LimitsSec := none
  mark : Bool := false
  cellA : Option CellSlot := none
  cellB : Option CellSlot := none
  deriving DecidableEq, Repr

/-- A commit in flight (R206): the section it stands at, whether that section is being written, the
sections written and verified, and the time it has taken. -/
structure Commit where
  sec : Nat
  writing : Bool
  written : List Nat
  ms : Nat
  deriving DecidableEq, Repr

/-- A write of the count cell in flight (R209): whether it goes to slot A, what it writes, and the pending
count. -/
structure CellWrite where
  toA : Bool
  slot : CellSlot
  pendingCount : Option Nat
  deriving DecidableEq, Repr

/-- Why the part was reset (R210). -/
inductive ResetCause where
  | powerOn | supplyDip | resetRequest
  deriving DecidableEq, Repr

/-- What the part keeps of itself: the uptime, the reset cause (R210), the sections that took their
defaults as bits and the completion mark as found (R208), the commit and the cell write in flight, the
changed marks as bits (R203), and the model's count of races (log 11). -/
structure Device where
  uptime : Uptime := 0
  cause : ResetCause := .powerOn
  defaulted : Nat := 0
  markFound : Bool := false
  commit : Option Commit := none
  cellWrite : Option CellWrite := none
  changed : BitVec 9 := 0
  races : Nat := 0
  deriving DecidableEq, Repr

end Sys2Proof.Machine
end

