-- ==== Sys2Proof/Machine/Operands.lean ====
section
/-! DEFINITION. The forms in which figures and codes are carried (R213): bytes, little-endian figures, and
the codes of the enumerations, each the position of a name in the list its field gives. -/

namespace Sys2Proof.Machine

/-! ### Bytes -/

/-- The low byte of a number. -/
def byteOf (n : Nat) : Byte := BitVec.ofNat 8 n
/-- A two-byte figure, least significant byte first (00_scope, Byte order). -/
def le16 (n : Nat) : List Byte := [byteOf n, byteOf (n / 256)]
/-- A four-byte figure. -/
def le32 (n : Nat) : List Byte := [byteOf n, byteOf (n / 256), byteOf (n / 65536), byteOf (n / 16777216)]
/-- A signed two-byte figure, two's complement. -/
def leI16 (z : Int) : List Byte := le16 (z % 65536).toNat
/-- A signed four-byte figure, two's complement. -/
def leI32 (z : Int) : List Byte := le32 (z % 4294967296).toNat
/-- A flag byte: the marks packed from bit 0. -/
def flagByte : List Bool → Nat
  | [] => 0
  | b :: bs => b.toNat + 2 * flagByte bs
/-- A one-byte field that may be absent: 0xFF then (R213). -/
def opt8 : Option Nat → List Byte
  | none => [0xFF]
  | some n => [byteOf n]
/-- A two-byte figure that may be absent or invalid: all ones then. -/
def opt16 : Option Nat → List Byte
  | none => le16 65535
  | some n => le16 n
/-- A four-byte figure that may be absent: all ones then. -/
def opt32 : Option Nat → List Byte
  | none => le32 4294967295
  | some n => le32 n
/-- A list: a count byte and its items (R213). -/
def counted (items : List (List Byte)) : List Byte := byteOf items.length :: items.flatten

/-- Byte i of a payload, 0 where the payload is shorter. -/
def rd8 (p : List Byte) (i : Nat) : Nat := (p.getD i 0).toNat
/-- The two-byte figure at offset i. -/
def rd16 (p : List Byte) (i : Nat) : Nat := rd8 p i + 256 * rd8 p (i + 1)
/-- The four-byte figure at offset i. -/
def rd32 (p : List Byte) (i : Nat) : Nat := rd16 p i + 65536 * rd16 p (i + 2)
/-- The signed two-byte figure at offset i. -/
def rdI16 (p : List Byte) (i : Nat) : Int :=
  if rd16 p i < 32768 then rd16 p i else (rd16 p i : Int) - 65536
/-- The two-byte figures of a run of bytes, a last odd byte left out. -/
def words16 : List Byte → List Nat
  | a :: b :: rest => (a.toNat + 256 * b.toNat) :: words16 rest
  | _ => []

/-! ### The check (R187) -/

/-- One bit of the CRC-8 with generator x^8 + x^2 + x + 1, most significant bit first. -/
def crcBit (r : Byte) : Byte := if r.msb then (r <<< 1) ^^^ 0x07 else r <<< 1
/-- One byte fed into the register. -/
def crcByte (r b : Byte) : Byte :=
  crcBit (crcBit (crcBit (crcBit (crcBit (crcBit (crcBit (crcBit (r ^^^ b))))))))
/-- The CRC-8 of a run of bytes, initial value 0, neither reflected nor inverted. -/
def crc8 (bytes : List Byte) : Byte := bytes.foldl crcByte 0

/-- A frame of the command link (R187, R212). -/
def linkFrame (kind tag : Byte) (payload : List Byte) : List Byte :=
  let body := byteOf payload.length :: kind :: tag :: payload
  0xC3 :: body ++ [crc8 body]

/-- A frame of the panel bus (R217). -/
def panelFrame (address : Nat) (kind : Byte) (payload : List Byte) : List Byte :=
  let body := byteOf address :: kind :: byteOf payload.length :: payload
  body ++ [crc8 body]

/-! ### Codes: the position in the list the field gives (R213) -/

/-- The code of a name in its list. -/
def codeIn {α : Type} [DecidableEq α] (names : List α) (x : α) : Nat := names.idxOf x

/-- The statuses in the order of R191. -/
def statuses : List Status :=
  [.ok, .unknownKind, .badLength, .outOfRange, .notReady, .busy, .inUse, .notFound, .noSpace,
   .notPermitted, .interlock, .noBudget, .supplyLow, .lockout, .faulted, .notFaulted, .conflict, .prot]
/-- Channel types (R1). -/
def chTypes : List ChType := [.dimmed, .switched, .pairA, .pairB, .beacon, .unused]
/-- Owners (R1). -/
def owners : List Owner :=
  [.none, .player 0, .player 1, .player 2, .player 3, .hostDirect, .beacon, .binding]
/-- Channel fault states (R1). -/
def chFaults : List ChFault := [.ok, .tripped, .latched]
/-- Sources (R37). -/
def sources : List Source := [.shore, .gen1, .gen2, .battery]
/-- Reservation holders (R27). -/
def resHolders : List ResHolder := [.stern, .windlass, .ext1, .ext2, .ext3, .ext4]
/-- Supply states (R33). -/
def supplyStates : List SupplyState := [.normal, .brownout, .critical]
/-- Scene kinds (R39). -/
def sceneKinds : List SceneKind := [.static, .sequence]
/-- End behaviours (R39). -/
def endBehaviours : List EndBehaviour := [.holdLast, .toFirst, .allOff]
/-- Player states (R46). -/
def playerStates : List PlayerState := [.idle, .fading, .dwell, .stopping]
/-- Player outcomes (R46). -/
def playerOutcomes : List PlayerOutcome := [.completed, .stopped, .aborted, .superseded, .empty]
/-- Busy modes (R47). -/
def busyModes : List BusyMode := [.restart, .queue, .ignore]
/-- Digital input roles (R60). -/
def diRoles : List DiRole :=
  [.platStowEnd, .platOutEnd, .platLatchFree, .hatchClosedEnd, .hatchOpenEnd, .hatchLatchFree,
   .anchorHome, .footUp, .footDown, .swimZone, .tenderCradle, .shorePresent, .commissionKey,
   .general, .unused]
/-- Analog input roles (R67). -/
def aiRoles : List AiRole := [.platPosition, .hatchPosition, .busVoltage, .windlassCurrent, .unused]
/-- Term subjects (R83). -/
def subjects : List Subject := [.platform, .hatch, .windlass]
/-- Directions of a motion (R83). -/
def dirs : List Dir := [.outward, .inward]
/-- Term directions (R83). -/
def termDirs : List TermDir := [.outward, .inward, .any]
/-- Term conditions (R83). -/
def conds : List Cond :=
  [.speedBelow, .inputActive, .inputInactive, .anchored, .notAnchored, .sourceIs, .linked]
/-- Interlocks: their codes count from 1 (R213). -/
def interlocks : List Interlock :=
  [.platformNotClear, .hatchMoving, .hatchNotStowed, .tenderInPath, .latchOpen]
/-- Axes (R114). -/
def axisIds : List AxisId := [.platform, .hatch]
/-- Axis states (R91). -/
def axStates : List AxState :=
  [.stowed, .unlatching, .extending, .retracting, .latching, .extended, .halted, .fault]
/-- Axis fault causes (R91). -/
def axCauses : List AxCause :=
  [.latch, .runTimeout, .noProgress, .positionSensor, .permit, .interlock, .supply]
/-- Pump states (R92). -/
def pumps : List Pump := [.off, .lead, .running, .runOn]
/-- Sequence states (R110). -/
def seqStates : List SeqState := [.idle, .step1, .step2, .done, .aborted]
/-- Sequence kinds (R110). -/
def seqKinds : List SeqKind := [.garageOpen, .garageClose]
/-- Windlass states (R118). -/
def wlStates : List WlState :=
  [.idle, .lowering, .hoisting, .jogging, .freeFall, .braking, .lockout, .fault]
/-- Windlass modes (R118). -/
def wlModes : List WlMode := [.hold, .lowerTo, .hoistHome]
/-- Count statuses (R118). -/
def countStatuses : List CountStatus := [.verified, .restored, .drifted]
/-- Windlass fault causes (R118). -/
def wlCauses : List WlCause := [.homeMissing, .chainReversed, .stall, .currentSensor, .permit, .supply]
/-- Stop causes, in the order of their first appearance in R132 (log 15). -/
def stopCauses : List StopCause :=
  [.hostStop, .release, .deadman, .linkDown, .standalone, .conflict, .target, .rodEnd, .home,
   .overspeed, .thermal]
/-- Hold kinds of a panel entry (R140). -/
def holdKinds : List HoldKind := [.up, .down, .freeFall]
/-- Panel link states (R148). -/
def links : List Link := [.absent, .joining, .up, .failing, .down, .incompatible]
/-- Indicator kinds (R148). -/
def indKinds : List IndKind := [.none, .mono, .rgb]
/-- Holding subjects (R148). -/
def holdSubjects : List HoldSubject := [.platform, .hatch, .sequence, .windlass]
/-- Key event kinds (R161, R217). -/
def keyKinds : List KeyKind := [.press, .release, .hold, .held]
/-- Internal event codes (R172). -/
def evCodes : List EvCode :=
  [.playerDone, .inputActive, .inputInactive, .inputPulse, .axisStart, .axisExtended, .axisStowed,
   .axisHalted, .axisFault, .sequenceEnd, .windlassStart, .windlassStopped, .windlassFault,
   .anchoredSet, .anchoredClear]
/-- Actions (R170). -/
def actions : List Action :=
  [.sceneStart, .sceneStop, .channelSet, .channelToggle, .channelStep, .axisHold, .axisGo, .axisStop,
   .sequenceStart, .windlassHold, .windlassAuto, .windlassStop, .notify]
/-- Indicator modes that can be shown (R213). -/
def indModes : List IndMode := [.off, .on, .blinkSlow, .blinkFast, .flash]
/-- Colours (R213). -/
def colours : List Colour := [.green, .amber, .red, .white, .blue]
/-- Device states (R199). -/
def devStates : List DevState := [.starting, .standalone, .linked]
/-- Reset causes (R210). -/
def resetCauses : List ResetCause := [.powerOn, .supplyDip, .resetRequest]
/-- Notice classes (R195). -/
def nClasses : List NClass :=
  [.channel, .scene, .supply, .input, .motion, .windlass, .panel, .key, .binding, .device]

/-- The notices of each class in the order of R214's table. -/
def noteTable : List (NClass × List Note) :=
  [ (.channel, [.tripped, .retried, .latched, .cleared, .openLoad, .loadRestored, .pairTimeout]),
    (.scene, [.playerStarted, .playerDone, .writeLapsed]),
    (.supply, [.stateNormal, .stateBrownout, .stateCritical, .overSet, .overCleared, .shedOn, .shedOff]),
    (.input, [.inActive, .inInactive, .inStuck, .stuckCleared, .inPulse, .sensorFault, .sensorOk]),
    (.motion, [.axStarted, .axExtended, .axStowed, .axHalted, .axFault, .axFaultCleared, .cooldownEnd,
               .sequenceEnd]),
    (.windlass, [.wlStarted, .wlStopped, .wlFault, .wlFaultCleared, .startRefused, .wlHoldIgnored,
                 .thermalLockout, .lockoutEnd, .overspeed, .homeSet, .countDrifted, .countSet,
                 .creepStart, .creepEnd, .wlConflict, .conflictCleared, .anchoredSet, .anchoredClear]),
    (.panel, [.joined, .linkUp, .linkFailing, .linkDown, .lost, .incompatible, .rejoined, .forgotten,
              .eventDiscarded, .deadman, .holdIgnored]),
    (.key, [.keyPress, .keyRelease, .keyHold, .keyHeld]),
    (.binding, [.refused, .notified, .chainLimit, .eventsDropped]),
    (.device, [.vesselFresh, .vesselStale, .sourceChanged, .hostLost, .hostBack, .started, .commitDone,
               .commitFailed]) ]

/-- The class of a notice (R195, R214). -/
def Note.cls (n : Note) : NClass :=
  ((noteTable.find? fun row => row.2.contains n).map (·.1)).getD .device

/-- The code of a notice within its class, from 1 (R214). -/
def Note.code (n : Note) : Nat :=
  ((noteTable.find? fun row => row.2.contains n).map fun row => row.2.idxOf n + 1).getD 0

/-- A notice value is held within the signed four-byte range (R213). -/
def clampValue (z : Int) : Int := max (-2147483648) (min z 2147483647)

/-- The payload of a notice frame (R212). -/
def Notice.payload (n : Notice) : List Byte :=
  le32 n.stamp.toNat ++ [byteOf (codeIn nClasses n.note.cls), byteOf n.note.code, byteOf n.subject,
    byteOf n.values.length] ++ (n.values.map fun v => leI32 (clampValue v)).flatten

/-- The bytes of a notice frame: KIND 0x7F, TAG 0 (R187, R195). -/
def Notice.bytes (n : Notice) : List Byte := linkFrame 0x7F 0 n.payload

/-- The bytes of a reply frame: the request's KIND with the top bit set, its TAG, then status, detail and
the result fields (R190, R212). -/
def Reply.bytes (r : Reply) : List Byte :=
  linkFrame (r.kind ||| 0x80) r.tag (byteOf (codeIn statuses r.status) :: byteOf r.detail :: r.result)

/-! ### Enumerations that carry parameters: a kind byte and one byte per parameter (R213, log 15) -/

/-- Trigger source: HOST, KEY_BINDING(b), EVENT_BINDING(b). -/
def TrigSource.pair : TrigSource → Nat × Nat
  | .host => (0, 0)
  | .keyBinding b => (1, b)
  | .eventBinding b => (2, b)
/-- Axis holder: NONE, HOST, PANEL(address, key), SEQUENCE, BINDING_AUTO. -/
def AxHolder.triple : AxHolder → Nat × Nat × Nat
  | .none => (0, 0, 0)
  | .host => (1, 0, 0)
  | .panel a k => (2, a, k)
  | .sequence => (3, 0, 0)
  | .bindingAuto => (4, 0, 0)
/-- Sequence holder: HOST, PANEL(address, key), BINDING_AUTO. -/
def SeqHolder.triple : SeqHolder → Nat × Nat × Nat
  | .host => (0, 0, 0)
  | .panel a k => (1, a, k)
  | .bindingAuto => (2, 0, 0)
/-- Windlass holder: NONE, HOST, PANEL(address, key), FOOT, BINDING_AUTO. -/
def WlHolder.triple : WlHolder → Nat × Nat × Nat
  | .none => (0, 0, 0)
  | .host => (1, 0, 0)
  | .panel a k => (2, a, k)
  | .foot => (3, 0, 0)
  | .bindingAuto => (4, 0, 0)
/-- Sequence end cause: a refusal code, a fault cause, or STOPPED (log 19). -/
def SeqCause.pair : SeqCause → Nat × Nat
  | .refused s => (0, codeIn statuses s)
  | .faulted c => (1, codeIn axCauses c)
  | .stopped => (2, 0)
/-- Hold source: FOOT_DOWN, FOOT_UP, or PANEL(address, key) with its kind. -/
def Hold.quad (h : Hold) : Nat × Nat × Nat × Nat :=
  match h.source with
  | .footDown => (0, 0, 0, 0)
  | .footUp => (1, 0, 0, 0)
  | .panel a k => (2, a, k, codeIn holdKinds h.kind)

/-- The source of a hold: FOOT_DOWN, FOOT_UP, or PANEL(address, key). -/
def HoldSource.triple : HoldSource → Nat × Nat × Nat
  | .footDown => (0, 0, 0)
  | .footUp => (1, 0, 0)
  | .panel a k => (2, a, k)

/-- A pair as bytes. -/
def bytes2 (t : Nat × Nat) : List Byte := [byteOf t.1, byteOf t.2]
/-- A triple as bytes. -/
def bytes3 (t : Nat × Nat × Nat) : List Byte := [byteOf t.1, byteOf t.2.1, byteOf t.2.2]
/-- A quadruple as bytes. -/
def bytes4 (t : Nat × Nat × Nat × Nat) : List Byte :=
  [byteOf t.1, byteOf t.2.1, byteOf t.2.2.1, byteOf t.2.2.2]
/-- A pair as a notice value, its bytes from the least significant up (R213). -/
def value2 (t : Nat × Nat) : Int := t.1 + 256 * t.2
/-- A triple as a notice value. -/
def value3 (t : Nat × Nat × Nat) : Int := t.1 + 256 * t.2.1 + 65536 * t.2.2
/-- A quadruple as a notice value. -/
def value4 (t : Nat × Nat × Nat × Nat) : Int := t.1 + 256 * t.2.1 + 65536 * t.2.2.1 + 16777216 * t.2.2.2
/-- A two-byte figure that may be absent, as a notice value: all ones in its width (R213, log 16). -/
def valueOpt16 : Option Nat → Int
  | none => 65535
  | some n => n

end Sys2Proof.Machine
end

