-- ==== Sys2Proof/Machine/State.lean ====
section
/-! DEFINITION. The state of the EA-24: every block's records, the nonvolatile memory and the queue of
commands that wait; and the state right after reset. -/

namespace Sys2Proof.Machine

/-- The whole machine. -/
structure State where
  /-- The working copy of the configuration (R203). -/
  cfg : Cfg := {}
  /-- The nonvolatile memory (R203, R209). -/
  nv : Nv := {}
  /-- The runtime part of the 24 channel records (R1). -/
  chan : Vector Channel 24 := Vector.replicate 24 {}
  /-- The beacon logic (R16, R17). -/
  beacon : Beacon := {}
  /-- The Supply Budget block (R19 to R38). -/
  budget : Budget := {}
  /-- The Scene engine's runtime state (R41, R46). -/
  scene : SceneEngine := {}
  /-- The Input block's runtime state (R61, R68, R71). -/
  inp : Inputs := {}
  /-- The vessel state record (R75). -/
  vessel : Vessel := {}
  /-- The Stern Motion block (R91, R92, R110). -/
  stern : Stern := {}
  /-- The Windlass block (R118). -/
  wl : Windlass := {}
  /-- The Panel Bus block (R146 to R169). -/
  panel : PanelBus := {}
  /-- The Binding block's runtime state (R170, R173, R181). -/
  bind : BindBlock := {}
  /-- The Command Link block (R186 to R202). -/
  link : CmdLink := {}
  /-- The uptime, the reset cause and what is in flight in the nonvolatile memory (R206, R209, R210). -/
  dev : Device := {}
  /-- The commands that wait, first in, first out (log 1). -/
  pending : List Instr := []
  deriving DecidableEq, Repr

/-- The reasons a step could stop the machine. The spec gives every command an effect or a refusal that is
itself an effect (a reply's status, a notice), so there is none: no meaning raises a fault. -/
inductive Fault where
  deriving DecidableEq, Repr

/-- The reasons a command could have no meaning. -/
inductive Refusal where
  /-- Raised by `exec` alone, for a command whose meaning is not written; safe, the machine stops. No
  command is left so. -/
  | notModelled (mnemonic : String)
  deriving DecidableEq, Repr

/-- The machine right after a POWER_ON of a part whose nonvolatile memory was never written: steps 1 and 2
of start-up are made (R211), every section took its factory defaults (R208, log 6), every block holds its
reset values (R18, R38, R59, R73, R90, R117, R145, R169, R185, R202), the device is STARTING and the notice
STARTED is the first in the queue. -/
def State.reset : State :=
  { link := { queue := [⟨0, .started, 0, [0, 0, 511]⟩] }
    dev := { defaulted := 511 } }

end Sys2Proof.Machine
end

