-- ==== Sys2Proof/Machine/Ops.lean ====
section
/-! DEFINITION. The named operations over State that every block uses: reading and writing one record of a
table, the roles of the inputs, the notice queue, and the outcome of a request. -/

namespace Sys2Proof.Machine

/-! ### Tables -/

/-- The table of n entries whose entry i is f i. -/
def tab {α : Type} (n : Nat) (f : Fin n → α) : Vector α n :=
  ⟨((List.finRange n).map f).toArray, by simp⟩

/-- Write one channel record. -/
def State.setChan (s : State) (i : Fin 24) (c : Channel) : State := { s with chan := s.chan.set i c }
/-- Change one channel record. -/
def State.modChan (s : State) (i : Fin 24) (f : Channel → Channel) : State := s.setChan i (f s.chan[i])
/-- The stored part of a channel record. -/
def State.chCfg (s : State) (i : Fin 24) : ChCfg := s.cfg.channels.ch[i]
/-- Write one player context. -/
def State.setPlayer (s : State) (p : Fin 4) (x : Player) : State :=
  { s with scene := { s.scene with players := s.scene.players.set p x } }
/-- A player context. -/
def State.player (s : State) (p : Fin 4) : Player := s.scene.players[p]
/-- Change one player context. -/
def State.modPlayer (s : State) (p : Fin 4) (f : Player → Player) : State := s.setPlayer p (f (s.player p))
/-- Write one digital input's runtime state. -/
def State.setDi (s : State) (n : Fin 16) (d : DiRt) : State :=
  { s with inp := { s.inp with di := s.inp.di.set n d } }
/-- Write one analog input's runtime state. -/
def State.setAi (s : State) (n : Fin 4) (d : AiRt) : State :=
  { s with inp := { s.inp with ai := s.inp.ai.set n d } }
/-- A panel's entry, by its index (address less 1). -/
def State.entry (s : State) (p : Fin 32) : Panel := s.panel.panels[p]
/-- Write one panel's entry. -/
def State.setEntry (s : State) (p : Fin 32) (e : Panel) : State :=
  { s with panel := { s.panel with panels := s.panel.panels.set p e } }
/-- The axis record of an axis. -/
def State.axis (s : State) : AxisId → Axis
  | .platform => s.stern.platform
  | .hatch => s.stern.hatch
/-- Write one axis record. -/
def State.setAxis (s : State) (a : AxisId) (x : Axis) : State :=
  match a with
  | .platform => { s with stern := { s.stern with platform := x } }
  | .hatch => { s with stern := { s.stern with hatch := x } }
/-- Change one axis record. -/
def State.modAxis (s : State) (a : AxisId) (f : Axis → Axis) : State := s.setAxis a (f (s.axis a))
/-- Write the pack record. -/
def State.setPack (s : State) (p : Pack) : State := { s with stern := { s.stern with pack := p } }
/-- Write the sequence context. -/
def State.setSeq (s : State) (q : Seq) : State := { s with stern := { s.stern with seq := q } }
/-- Write the windlass record. -/
def State.setWl (s : State) (w : Windlass) : State := { s with wl := w }

/-! ### The device -/

/-- The device is STARTING (R199). -/
def State.starting (s : State) : Bool := s.link.device == .starting
/-- A COMMIT is in flight (R206). -/
def State.committing (s : State) : Bool := s.dev.commit.isSome
/-- The time since an uptime, whatever the wrap (00_scope, Time). -/
def State.sinceUptime (s : State) (t : Uptime) : Nat := (s.dev.uptime - t).toNat
/-- Set a section's changed mark (R203); sections are numbered as their codes. -/
def State.markChanged (s : State) (sec : Nat) : State :=
  { s with dev := { s.dev with changed := s.dev.changed ||| (1#9 <<< sec) } }

/-- Set a section's changed mark where its content differs (R203). -/
def State.markIf (s : State) (differs : Bool) (sec : Nat) : State :=
  { s with dev := { s.dev with
      changed := if differs then s.dev.changed ||| (1#9 <<< sec) else s.dev.changed } }

/-! ### Notices (R195, R196) -/

/-- Give a notice: it joins the queue at its tail if its class is enabled and fewer than 32 are queued; with
32 queued it is discarded and the overflow flag is set (R196). -/
def notice (n : Note) (subject : Nat) (values : List Int) (s : State) : State :=
  if s.link.enabled.getLsbD (codeIn nClasses n.cls) then
    if s.link.queue.length < 32 then
      { s with link := { s.link with queue := s.link.queue ++ [⟨s.dev.uptime, n, subject, values⟩] } }
    else { s with link := { s.link with overflow := true } }
  else s

/-! ### Roles of the inputs -/

/-- A digital input's validated state: the filtered state while it is not STUCK; inactive with role UNUSED
and in PULSE mode (R61, R64). -/
def State.validated (s : State) (n : Fin 16) : Bool :=
  s.cfg.general.di[n].role != .unused && !s.cfg.general.di[n].pulse &&
    s.inp.di[n].filtered && !s.inp.di[n].stuck
/-- The digital input that holds a role (R60). -/
def State.roleInput (s : State) (r : DiRole) : Option (Fin 16) :=
  (List.finRange 16).find? fun n => s.cfg.general.di[n].role == r
/-- A role is held by some input. -/
def State.roleHeld (s : State) (r : DiRole) : Bool := (s.roleInput r).isSome
/-- The role's input is validated active; an absent role reads inactive. -/
def State.roleActive (s : State) (r : DiRole) : Bool :=
  match s.roleInput r with
  | none => false
  | some n => s.validated n
/-- The analog input that holds a role (R67). -/
def State.analogInput (s : State) (r : AiRole) : Option (Fin 4) :=
  (List.finRange 4).find? fun n => s.cfg.general.ai[n].role == r
/-- The value a role's reader sees: absent while the role is absent or its input invalid (R69). -/
def State.analogValue (s : State) (r : AiRole) : Option Nat :=
  match s.analogInput r with
  | none => none
  | some n => s.inp.ai[n].value

/-! ### Axes -/

/-- The other axis of the transom. -/
def otherAxis : AxisId → AxisId
  | .platform => .hatch
  | .hatch => .platform
/-- An axis's index in notices and events (06, Events and notices). -/
def axisIdx (a : AxisId) : Nat := codeIn axisIds a
/-- An axis's position: the value of its position input, or invalid (R91). -/
def State.position (s : State) : AxisId → Option Nat
  | .platform => s.analogValue .platPosition
  | .hatch => s.analogValue .hatchPosition
/-- The figures of an axis in AXES (R93). -/
def State.axCfg (s : State) : AxisId → AxisCfg
  | .platform => s.cfg.axes.platform
  | .hatch => s.cfg.axes.hatch
/-- An axis's RUN_LIMIT (R93). -/
def State.runLimit (s : State) : AxisId → Nat
  | .platform => s.cfg.limits.runLimitPlat
  | .hatch => s.cfg.limits.runLimitHatch
/-- An axis's COOLDOWN in s (R93). -/
def State.cooldownTime (s : State) : AxisId → Nat
  | .platform => s.cfg.limits.cooldownPlat
  | .hatch => s.cfg.limits.cooldownHatch
/-- The role of an axis's stow end switch. -/
def stowRole : AxisId → DiRole
  | .platform => .platStowEnd
  | .hatch => .hatchClosedEnd
/-- The role of an axis's out end switch. -/
def outRole : AxisId → DiRole
  | .platform => .platOutEnd
  | .hatch => .hatchOpenEnd
/-- The role of an axis's latch switch. -/
def latchRole : AxisId → DiRole
  | .platform => .platLatchFree
  | .hatch => .hatchLatchFree
/-- The moving phases (R91). -/
def AxState.moving : AxState → Bool
  | .unlatching | .extending | .retracting | .latching => true
  | .stowed | .extended | .halted | .fault => false
/-- The states in which an axis is watched by the Permit block (R82, R87). -/
def AxState.watched : AxState → Bool
  | .unlatching | .extending | .retracting => true
  | .latching | .stowed | .extended | .halted | .fault => false
/-- The states in which an axis drives its valve: EXTENDING and RETRACTING. -/
def AxState.driving : AxState → Bool
  | .extending | .retracting => true
  | .unlatching | .latching | .stowed | .extended | .halted | .fault => false

/-! ### Windlass -/

/-- The running states (R118). -/
def WlState.running : WlState → Bool
  | .lowering | .hoisting | .jogging | .freeFall => true
  | .idle | .braking | .lockout | .fault => false
/-- The running states in which the motor is powered (R118). -/
def WlState.powered : WlState → Bool
  | .lowering | .hoisting | .jogging => true
  | .freeFall | .idle | .braking | .lockout | .fault => false
/-- The states at rest (R118). -/
def WlState.atRest : WlState → Bool
  | .idle | .lockout | .fault => true
  | .lowering | .hoisting | .jogging | .freeFall | .braking => false
/-- The reported length, in 0.1 m (R123). -/
def State.chainLength (s : State) : Nat := min 65535 (s.wl.count * s.cfg.windlass.pitch / 100)

/-! ### Requests -/

/-- The outcome of a request: its status, detail and result fields (R191). -/
structure Ans where
  status : Status
  detail : Nat := 0
  result : List Byte := []
  deriving DecidableEq, Repr

/-- Answered OK without result fields. -/
def Ans.ok : Ans := ⟨.ok, 0, []⟩
/-- Refused with a code and no detail. -/
def Ans.refused (c : Status) : Ans := ⟨c, 0, []⟩

/-- The outcome of a start at an owning block (R95, R126, R174): begun, taken as done, ignored, or refused
with a code and its detail. -/
inductive StartRes where
  | begun | done | ignored
  | refused (c : Status) (detail : Nat)
  deriving DecidableEq, Repr

/-- How a start answers a host's request (R114, R143). -/
def StartRes.ans : StartRes → Ans
  | .begun | .done | .ignored => Ans.ok
  | .refused c d => ⟨c, d, []⟩

/-- How the Binding block is handed an event: at once, or into its event list while it carries out an
action (R173). -/
abbrev Offer := Event → State → State

end Sys2Proof.Machine
end

