-- ==== Sys2Proof/Machine/Budget.lean ====
section
/-! DEFINITION. The Supply Budget block (02_supply_budget.md): the evaluation and its seven stages, the
reservation table, and the supply state. -/

namespace Sys2Proof.Machine

/-! ### The evaluation (R20 to R26) -/

/-- The duty of a level: D = floor(L * L / 1000) (R3). -/
def dutyOf (l : Nat) : Nat := l * l / 1000
/-- A channel's commanded duty. -/
def Channel.duty (c : Channel) : Nat := dutyOf c.level

/-- The limit of a source (R19). -/
def SupplySec.limit (t : SupplySec) : Source → Nat
  | .shore => t.shore
  | .gen1 => t.gen1
  | .gen2 => t.gen2
  | .battery => t.battery

/-- A reservation's entry (R27). -/
def Reservations.get (r : Reservations) : ResHolder → Option Nat
  | .stern => r.stern
  | .windlass => r.windlass
  | .ext1 => r.ext1
  | .ext2 => r.ext2
  | .ext3 => r.ext3
  | .ext4 => r.ext4
/-- Write a reservation's entry. -/
def Reservations.set (r : Reservations) (h : ResHolder) (v : Option Nat) : Reservations :=
  match h with
  | .stern => { r with stern := v }
  | .windlass => { r with windlass := v }
  | .ext1 => { r with ext1 := v }
  | .ext2 => { r with ext2 := v }
  | .ext3 => { r with ext3 := v }
  | .ext4 => { r with ext4 := v }
/-- The sum of the amounts held (R22). -/
def Reservations.total (r : Reservations) : Nat :=
  r.stern.getD 0 + r.windlass.getD 0 + r.ext1.getD 0 + r.ext2.getD 0 + r.ext3.getD 0 + r.ext4.getD 0

/-- The class a channel counts in: the beacon counts in class 0 (R21). -/
def ChCfg.budgetClass (k : ChCfg) : Nat := if k.type = .beacon then 0 else k.cls

/-- Stage 1: a channel's demand, I * D / 1000 rounded up; 0 with D = 0, in TRIPPED or LATCHED, and for
UNUSED; outside those cases the beacon channel's is I while it blinks and 0 when it does not (R21). -/
def demand (blinking : Bool) (k : ChCfg) (c : Channel) : Nat :=
  if k.type = .unused ∨ c.fault ≠ .ok ∨ c.duty = 0 then 0
  else if k.type = .beacon then (if blinking then k.rated else 0)
  else (k.rated * c.duty + 999) / 1000

/-- The demand of class j over all channels (R21). -/
def classDemand (s : State) (j : Nat) : Nat :=
  ((List.finRange 24).map fun i =>
    if (s.chCfg i).budgetClass = j then demand s.beacon.blinking (s.chCfg i) s.chan[i] else 0).sum

/-- Stage 5 for one class: its factor, and the remainder after it (R23). -/
def classShare (c rem : Nat) : Nat × Nat :=
  if c = 0 then (1000, rem) else if c ≤ rem then (1000, rem - c) else (1000 * rem / c, 0)

/-- The figures an evaluation finds from its inputs as they stand (R21 to R23): A is S - M - sum of R, or 0
if that is negative; the remainder is A - C0, or 0 if that is negative or the supply state is not NORMAL. -/
def evalFigures (s : State) : Eval :=
  let limit := s.cfg.supply.limit s.vessel.active
  let avail := limit - (s.cfg.limits.margin + s.budget.res.total)
  let c0 := classDemand s 0
  let c1 := classDemand s 1
  let c2 := classDemand s 2
  let c3 := classDemand s 3
  let rem := if s.budget.supply = .normal then avail - c0 else 0
  let s1 := classShare c1 rem
  let s2 := classShare c2 s1.2
  let s3 := classShare c3 s2.2
  { source := s.vessel.active, limit := limit, margin := s.cfg.limits.margin,
    reserved := s.budget.res.total, avail := avail, c0 := c0, c1 := c1, c2 := c2, c3 := c3,
    f1 := s1.1, f2 := s2.1, f3 := s3.1, rest := s3.2 }

/-- The factor of a class: f0 is 1000 (R22). -/
def Eval.factor (e : Eval) (j : Nat) : Nat :=
  if j = 0 then 1000 else if j = 1 then e.f1 else if j = 2 then e.f2 else e.f3

/-- Stage 6: a channel's granted duty (R24). -/
def grantedDuty (e : Eval) (k : ChCfg) (c : Channel) : Nat :=
  if k.type = .unused ∨ c.fault ≠ .ok then 0
  else if k.budgetClass = 0 then c.duty
  else if k.type = .dimmed then c.duty * e.factor k.budgetClass / 1000
  else if e.factor k.budgetClass = 1000 then c.duty else 0

/-- Stage 6: a channel's granted current (R24). -/
def grantedCurrent (e : Eval) (blinking : Bool) (k : ChCfg) (c : Channel) : Nat :=
  if k.type = .unused ∨ c.fault ≠ .ok then 0
  else if k.budgetClass = 0 then demand blinking k c
  else if k.type = .dimmed then demand blinking k c * e.factor k.budgetClass / 1000
  else if e.factor k.budgetClass = 1000 then demand blinking k c else 0

/-- Stage 7: SHEDDING is active when a class of 1 to 3 has a demand and a factor below 1000 (R25). -/
def Eval.sheds (e : Eval) : Bool :=
  (e.c1 != 0 && e.f1 < 1000) || (e.c2 != 0 && e.f2 < 1000) || (e.c3 != 0 && e.f3 < 1000)

/-- BUDGET_OVER as an evaluation finds it: C0 > A (R22). -/
def Eval.isOver (e : Eval) : Bool := e.avail < e.c0

/-- The index of the active source, the subject of the SUPPLY notices (R37). -/
def State.sourceIdx (s : State) : Nat := codeIn sources s.vessel.active

/-- The granted duties replace those of all channels together; each is driven from the start of the
channel's next PWM period (R20). -/
def applyGrants (e : Eval) (s : State) : State :=
  { s with chan := tab 24 fun i => { s.chan[i] with granted := grantedDuty e (s.chCfg i) s.chan[i] } }

/-- Keep the figures, and report each change of the two conditions, BUDGET_OVER first (R22, R25). -/
def settleConditions (e : Eval) (s : State) : State :=
  let s1 := { s with budget := { s.budget with last := e, budgetOver := e.isOver, shedding := e.sheds } }
  let s2 := if e.isOver = s.budget.budgetOver then s1
    else notice (if e.isOver then .overSet else .overCleared) s.sourceIdx [e.c0, e.avail] s1
  if e.sheds = s.budget.shedding then s2
  else notice (if e.sheds then .shedOn else .shedOff) s.sourceIdx [e.avail, e.reserved] s2

/-- A budget evaluation (R20): the seven stages to the end; none runs during STARTING. -/
def evaluate (s : State) : State :=
  if s.starting then s else settleConditions (evalFigures s) (applyGrants (evalFigures s) s)

/-! ### Reservations (R27 to R31) -/

/-- Write an entry of the reservation table. -/
def State.setRes (s : State) (h : ResHolder) (v : Option Nat) : State :=
  { s with budget := { s.budget with res := s.budget.res.set h v } }

/-- An amount fits beside the amounts of the other holders: C0 of the last evaluation + the others + the
amount is at most S - M (R28). -/
def State.reserveFits (s : State) (h : ResHolder) (amount : Nat) : Bool :=
  s.budget.last.c0 + (s.budget.res.total - (s.budget.res.get h).getD 0) + amount + s.cfg.limits.margin
    ≤ s.cfg.supply.limit s.vessel.active

/-- The admission test of R28, the supply state first: the refusal code, or the state with the amount held
and its evaluation run. The holder's own old amount takes no part (R29). -/
def requestNew (h : ResHolder) (amount : Nat) (s : State) : Except Status State :=
  if s.budget.supply ≠ .normal then .error .supplyLow
  else if s.reserveFits h amount then .ok (evaluate (s.setRes h (some amount))) else .error .noBudget

/-- A request for a reservation: admission for a holder with no entry (R28), else a resize (R29), in which a
smaller or equal amount is always taken. -/
def reserveFor (h : ResHolder) (amount : Nat) (s : State) : Except Status State :=
  match s.budget.res.get h with
  | some old =>
    if amount = old then .ok s
    else if amount < old then .ok (evaluate (s.setRes h (some amount)))
    else requestNew h amount s
  | none => requestNew h amount s

/-- A release removes the holder's entry and starts an evaluation; without an entry it changes nothing
(R30). -/
def freeRes (h : ResHolder) (s : State) : State :=
  match s.budget.res.get h with
  | none => s
  | some _ => evaluate (s.setRes h none)

/-! ### The supply state (R32 to R36) -/

/-- The state whose dwell a reading runs in the present supply state, if any (R33). -/
def dwellTarget (l : LimitsSec) (st : SupplyState) (v : Nat) : Option SupplyState :=
  match st with
  | .normal => if v < l.uvShed then some .brownout else none
  | .brownout =>
    if l.uvShed + l.uvHyst ≤ v then some .normal else if v < l.uvStop then some .critical else none
  | .critical => if l.uvStop + l.uvHyst ≤ v then some .brownout else none

/-- The length of the dwell that leads from a state to another (R33). -/
def dwellTime (old new : SupplyState) : Nat :=
  match old, new with
  | .normal, _ => 200
  | .brownout, .critical => 200
  | .brownout, _ => 2000
  | .critical, _ => 2000

/-- A reading starts, keeps or cancels the dwell (R33). -/
def judgeReading (v : Nat) (s : State) : State :=
  match dwellTarget s.cfg.limits s.budget.supply v with
  | none => { s with budget := { s.budget with dwell := none } }
  | some t =>
    match s.budget.dwell with
    | some (t', _) =>
      if t' = t then s else { s with budget := { s.budget with dwell := some (t, 0) } }
    | none => { s with budget := { s.budget with dwell := some (t, 0) } }

/-- The value that stands on the BUS_VOLTAGE input runs the dwell of the state just entered (R33, log 18). -/
def judgeStanding (s : State) : State :=
  match s.analogValue .busVoltage with
  | none => s
  | some v => judgeReading v s

/-- The bus voltage as a notice value. -/
def State.voltageValue (s : State) : Int := valueOpt16 (s.analogValue .busVoltage)

/-- Move to a supply state: the dwell is over. -/
def State.setSupply (s : State) (st : SupplyState) : State :=
  { s with budget := { s.budget with supply := st, dwell := none } }

/-- R36: a fault or absence of BUS_VOLTAGE puts the supply state in BROWNOUT and holds it there; from
NORMAL and from CRITICAL the move gives STATE_BROWNOUT with cause SENSOR and starts an evaluation. -/
def supplySensorLost (s : State) : State :=
  let held := { s with budget := { s.budget with held := true, dwell := none } }
  match s.budget.supply with
  | .brownout => held
  | .normal | .critical =>
    evaluate (notice .stateBrownout s.sourceIdx
      [s.voltageValue, 1, codeIn supplyStates s.budget.supply] (held.setSupply .brownout))

/-- The reader of BUS_VOLTAGE takes a conversion (R33, R36): a valid value ends the hold of R36 and is
judged; an invalid one holds BROWNOUT. -/
def supplyTaken (s : State) : State :=
  match s.analogValue .busVoltage with
  | none => supplySensorLost s
  | some v => judgeReading v { s with budget := { s.budget with held := false } }

end Sys2Proof.Machine
end

