-- ==== Sys2Proof/Machine/Channels.lean ====
section
/-! DEFINITION. The Load Channel block (01_load_channels.md): levels, fades, ownership, the gate drive,
trips and open loads, shade pairs and the beacon. What a player is told is left to the Scene engine. -/

namespace Sys2Proof.Machine

/-- A timer that has run `ms` has reached its length. Every command that names the end of a timer asks this
first, and changes nothing otherwise (log 3). -/
def reached (ms length : Nat) : Bool := length ≤ ms

/-! ### Pairs (R1, R14, R15) -/

/-- PAIR_A or PAIR_B. -/
def ChType.isPair : ChType → Bool
  | .pairA | .pairB => true
  | .dimmed | .switched | .beacon | .unused => false

/-- Two channels form a matched pair: one is PAIR_A, the other PAIR_B, and each names the other (R1). -/
def State.matched (s : State) (i j : Fin 24) : Bool :=
  (((s.chCfg i).type == .pairA && (s.chCfg j).type == .pairB) ||
    ((s.chCfg i).type == .pairB && (s.chCfg j).type == .pairA)) &&
  (s.chCfg i).partner == j.val && (s.chCfg j).partner == i.val

/-- The partner of a channel in its matched pair. -/
def State.pairPartner (s : State) (i : Fin 24) : Option (Fin 24) :=
  (List.finRange 24).find? fun j => s.matched i j

/-- The PAIR_A channel of a channel's matched pair, where the pair's dead-time timer is kept. -/
def State.pairHome (s : State) (i : Fin 24) : Option (Fin 24) :=
  (s.pairPartner i).map fun j => if (s.chCfg i).type = .pairA then i else j

/-- The pair's dead-time timer holds the channel's output (R14). -/
def State.heldOff (s : State) (i : Fin 24) : Bool :=
  match s.pairHome i with
  | none => false
  | some h => s.chan[h].deadMs.isSome

/-- Start the dead-time timer of a channel's pair, if it is matched (R14). -/
def startDeadTime (i : Fin 24) (s : State) : State :=
  match s.pairHome i with
  | none => s
  | some h => s.modChan h fun c => { c with deadMs := some 0 }

/-! ### Levels (R3) -/

/-- A level is clamped by R3: to 1000 at most, and on a SWITCHED, PAIR or BEACON channel to 0 or 1000. -/
def clampLevel (k : ChType) (l : Nat) : Nat :=
  match k with
  | .dimmed | .unused => min l 1000
  | .switched | .pairA | .pairB | .beacon => if l = 0 then 0 else 1000

/-- The pair run timer at a level set (R15): started, or started again, at 1000; removed at 0. -/
def runTimerAt (k : ChType) (l : Nat) (old : Option Nat) : Option Nat :=
  if k.isPair then (if l = 1000 then some 0 else none) else old

/-- A channel record with its level written: the granted duty never stands above the commanded one (R9). -/
def Channel.withLevel (c : Channel) (k : ChType) (l : Nat) : Channel :=
  { c with level := l, granted := min c.granted (dutyOf l), runMs := runTimerAt k l c.runMs }

/-- Write a channel's commanded level, already clamped: the pair run timer and, from 1000 to 0, the
dead-time timer follow; a change of the commanded duty starts a budget evaluation (R3, R14, R15). -/
def levelTo (i : Fin 24) (l : Nat) (s : State) : State :=
  let c := s.chan[i]
  let s1 := s.setChan i (c.withLevel (s.chCfg i).type l)
  let s2 := if c.level = 1000 ∧ l = 0 then startDeadTime i s1 else s1
  if dutyOf l = c.duty then s2 else evaluate s2

/-- The partner's exclusion (R14): its level becomes 0 and its output goes off at once. -/
def excludePartner (i : Fin 24) (s : State) : State :=
  match s.pairPartner i with
  | none => s
  | some j =>
    if s.chan[j].level = 1000 then (levelTo j 0 s).modChan j fun c => { c with pwm := 0 } else s

/-- Set a channel's level (R3, R14). -/
def setLevel (i : Fin 24) (l : Nat) (s : State) : State :=
  let l' := clampLevel (s.chCfg i).type l
  levelTo i l' (if l' = 1000 then excludePartner i s else s)

/-! ### Fades (R4, R5) -/

/-- The fade time as taken: at most 60000, and 0 on any channel that is not DIMMED (R4). -/
def fadeTime (k : ChType) (f : Nat) : Nat := if k = .dimmed then min f 60000 else 0

/-- End a channel's fade where it stands, without a report (R5). -/
def endFade (i : Fin 24) (s : State) : State := s.modChan i fun c => { c with fade := none }

/-- Start a fade (R4); whether it has ended at once. -/
def startFade (i : Fin 24) (l f : Nat) (s : State) : State × Bool :=
  let k := (s.chCfg i).type
  let f' := fadeTime k f
  if f' = 0 then (setLevel i l (endFade i s), true)
  else (s.modChan i fun c =>
    { c with fade := some { start := c.level, target := clampLevel k l, elapsed := 0, time := f',
                            since := 0 } }, false)

/-- The level of a fade at elapsed time t: L0 + (L1 - L0) * t / F, truncated toward zero (R5). -/
def Fade.levelAt (f : Fade) (t : Nat) : Nat :=
  ((f.start : Int) + Int.tdiv (((f.target : Int) - f.start) * t) f.time).toNat

/-- A step of a running fade: 20 ms, capped at its time; whether it has ended (R5). -/
def stepFade (i : Fin 24) (f : Fade) (s : State) : State × Bool :=
  let t := min (f.elapsed + 20) f.time
  let s1 := s.modChan i fun c =>
    { c with fade := if t = f.time then none else some { f with elapsed := t, since := 0 } }
  (levelTo i (f.levelAt t) s1, t = f.time)

/-! ### Ownership (R6) -/

/-- The player among the owners. -/
def Owner.asPlayer : Owner → Option (Fin 4)
  | .player p => Option.some p
  | .none | .hostDirect | .beacon | .binding => Option.none

/-- A party sets a channel as its owner: a running fade ends; the player that loses it, if another party
takes it (R6). -/
def takeChannel (i : Fin 24) (o : Owner) (s : State) : State × Option (Fin 4) :=
  let c := s.chan[i]
  if c.owner = o then (s, none)
  else (s.setChan i { c with owner := o, fade := none }, c.owner.asPlayer)

/-! ### The gate drive (R9) -/

/-- The duty at which a channel's gate is driven in the running PWM period. A channel of a matched pair that
is not at level 1000 is off at once, not from the next period: R9 says so of a trip and of pair exclusion
alone, and for a set to 0 and the run time it is the model's choice (log 37). -/
def State.gateDuty (s : State) (i : Fin 24) : Nat :=
  let c := s.chan[i]
  if s.starting ∨ c.fault ≠ .ok then 0
  else match (s.chCfg i).type with
    | .unused => 0
    | .dimmed => c.pwm
    | .switched => if c.pwm = 1000 then 1000 else 0
    | .pairA | .pairB =>
      if c.pwm = 1000 ∧ s.heldOff i = false ∧ (c.level = 1000 ∨ s.pairPartner i = none) then 1000 else 0
    | .beacon => if c.pwm = 1000 ∧ s.beacon.blinking = true ∧ s.beacon.halfOn = true then 1000 else 0

/-- The gate output is driven on in some part of the PWM period. -/
def State.gateOn (s : State) (i : Fin 24) : Bool := s.gateDuty i != 0

/-! ### Trips (R10 to R12) -/

/-- The trip at a channel in OK (R10, R11): the retry count and series, the fault state, the notice, and
the evaluation. -/
def trip (i : Fin 24) (s : State) : State :=
  let c := s.chan[i]
  if c.fault ≠ .ok then s
  else
    let fresh := c.retry = 0 ∨ 60000 ≤ s.sinceUptime (c.seriesStart.getD s.dev.uptime)
    let s1 :=
      if fresh then
        notice .tripped i [1, c.current] (s.setChan i
          { c with fault := .tripped, retry := 1, seriesStart := some s.dev.uptime, tripAge := some 0,
                   overMs := none })
      else if c.retry < 3 then
        notice .tripped i [c.retry + 1, c.current] (s.setChan i
          { c with fault := .tripped, retry := c.retry + 1, tripAge := some 0, overMs := none })
      else
        notice .latched i [c.current] (s.setChan i
          { c with fault := .latched, tripAge := none, overMs := none })
    evaluate s1

/-- The retry (R11): due 1000 ms after a trip into TRIPPED. -/
def channelRetry (i : Fin 24) (s : State) : State :=
  let c := s.chan[i]
  if c.fault = .tripped ∧ reached (c.tripAge.getD 0) 1000 then
    evaluate (notice .retried i [c.retry] (s.setChan i { c with fault := .ok, overMs := none }))
  else s

/-- The quiet end of a trip series (R11): 60 s since the last trip, in any fault state but LATCHED. -/
def tripSeriesQuiet (i : Fin 24) (s : State) : State :=
  let c := s.chan[i]
  if c.retry ≠ 0 ∧ c.fault ≠ .latched ∧ reached (c.tripAge.getD 0) 60000 then
    s.setChan i { c with retry := 0, seriesStart := none, tripAge := none }
  else s

/-- CHANNEL_CLEAR_FAULT at a LATCHED channel (R12). -/
def clearLatched (i : Fin 24) (s : State) : State :=
  let c := s.chan[i]
  evaluate (notice .cleared i [] (s.setChan i
    { c with fault := .ok, retry := 0, seriesStart := none, tripAge := none, overMs := none }))

/-! ### Open loads (R13) -/

/-- The open-load check applies: a threshold, and the gate driven with a granted duty of at least 100. -/
def State.openApplies (s : State) (i : Fin 24) : Bool :=
  (s.chCfg i).openThr != 0 && s.gateOn i && decide (100 ≤ s.chan[i].granted)

/-- The current stands on the side of the threshold that the check is waiting out. -/
def openSide (k : ChCfg) (c : Channel) : Bool :=
  if c.openFlag then k.openThr ≤ c.current else c.current < k.openThr

/-- The 500 ms of applying time are over, with a threshold and the current still on its side. -/
def State.openDue (s : State) (i : Fin 24) : Bool :=
  (s.chCfg i).openThr != 0 && openSide (s.chCfg i) s.chan[i] && reached s.chan[i].openMs 500

/-- The open flag is set. -/
def openLoad (i : Fin 24) (s : State) : State :=
  let c := s.chan[i]
  if c.openFlag = false ∧ s.openDue i then
    notice .openLoad i [c.current] (s.setChan i { c with openFlag := true, openMs := 0 })
  else s

/-- The open flag is cleared by current. -/
def loadRestored (i : Fin 24) (s : State) : State :=
  let c := s.chan[i]
  if c.openFlag = true ∧ s.openDue i then
    notice .loadRestored i [c.current] (s.setChan i { c with openFlag := false, openMs := 0 })
  else s

/-! ### Current sense (R10, R13, R70) -/

/-- The current a conversion shows: 0 while the output has been off for the 10 ms since the last one, else
raw * SENSE_FULL / 4095 (R70). -/
def sensedCurrent (k : ChCfg) (c : Channel) (raw : Nat) : Nat :=
  if 10 ≤ c.offMs then 0 else raw * k.senseFull / 4095

/-- The time above the trip current after a reading (R10). A reading above it that is taken while the gate is off
drops the time reached: the spec does not say (log 36). -/
def overAfter (k : ChCfg) (on : Bool) (current : Nat) (old : Option Nat) : Option Nat :=
  if on = true ∧ k.trip < current then some (old.getD 0) else none

/-- A conversion of a channel's current sense: the measured current, the trip watch, the open-load check. -/
def currentConversion (i : Fin 24) (raw : Nat) (s : State) : State :=
  let k := s.chCfg i
  let cur := sensedCurrent k s.chan[i] raw
  let c := { s.chan[i] with
    current := cur
    overMs := if s.chan[i].fault = .ok then overAfter k (s.gateOn i) cur s.chan[i].overMs else none }
  let c' := if s.openApplies i = true ∧ openSide k c = false then { c with openMs := 0 } else c
  let s1 := s.setChan i c'
  match c'.overMs with
  | none => s1
  | some ms => if reached ms 20 then trip i s1 else s1

/-- A short reported by the channel's switch: it trips while its gate output is driven on (R10). -/
def shortReport (i : Fin 24) (s : State) : State := if s.gateOn i then trip i s else s

/-! ### Shade pair timers (R14, R15) -/

/-- The dead time of a pair ends: a channel of it at level 1000 is held off no longer. -/
def pairDeadTimeEnd (i : Fin 24) (s : State) : State :=
  match s.pairHome i with
  | none => s
  | some h =>
    match s.chan[h].deadMs with
    | none => s
    | some ms => if reached ms 500 then s.modChan h fun c => { c with deadMs := none } else s

/-- A pair channel reaches its run time: level 0, the dead time, and PAIR_TIMEOUT; its owner is kept (R15). The
evaluation that the fall to 0 starts gives its notices before PAIR_TIMEOUT (the model's choice, log 102). -/
def pairTimeout (i : Fin 24) (s : State) : State :=
  match s.chan[i].runMs with
  | none => s
  | some ms =>
    if reached ms ((s.chCfg i).runTime * 1000) then
      notice .pairTimeout i [(s.chCfg i).runTime] (levelTo i 0 s)
    else s

/-! ### The beacon (R16, R17) -/

/-- The beacon is active: an axis in a moving phase, or the windlass running. -/
def State.beaconActive (s : State) : Bool :=
  s.stern.platform.state.moving || s.stern.hatch.state.moving || s.wl.state.running

/-- The beacon channel. -/
def State.beaconChannel (s : State) : Option (Fin 24) :=
  (List.finRange 24).find? fun i => (s.chCfg i).type == .beacon

/-- The beacon logic sets its channel's level: 1000 while it blinks, 0 while it does not. -/
def driveBeacon (s : State) : State :=
  match s.beaconChannel with
  | none => s
  | some i => levelTo i (if s.beacon.blinking then 1000 else 0) s

/-- The beacon logic after a change of an axis's or the windlass's state: activity begins, or ends with the
stretch timer (R16, R17). -/
def beaconUpdate (s : State) : State :=
  if s.beaconActive = s.beacon.active then s
  else if s.beaconActive then
    if s.beacon.blinking then { s with beacon := { s.beacon with active := true, stretch := none } }
    else driveBeacon { s with beacon := { active := true, blinking := true, halfOn := true, halfMs := 0,
                                          stretch := none } }
  else if s.cfg.channels.beaconStretch = 0 then driveBeacon { s with beacon := {} }
  else { s with beacon := { s.beacon with active := false, stretch := some s.cfg.channels.beaconStretch } }

/-- A half of the blink ends (R16). -/
def beaconHalf (s : State) : State :=
  if s.beacon.blinking = true ∧ reached s.beacon.halfMs 500 then
    { s with beacon := { s.beacon with halfOn := !s.beacon.halfOn, halfMs := 0 } }
  else s

/-- The stretch timer runs out (R17). -/
def beaconStretchEnd (s : State) : State :=
  if s.beacon.stretch = some 0 then driveBeacon { s with beacon := {} } else s

end Sys2Proof.Machine
end

