-- ==== Sys2Proof/Machine/Holdings.lean ====
section
/-! DEFINITION. The holdings of the panel table and the fast-poll list (R148, R159, R164, R165). -/

namespace Sys2Proof.Machine

/-- A panel's index by its bus address, 1..32. -/
def panelOf (address : Nat) : Option (Fin 32) :=
  if h : 1 ≤ address ∧ address ≤ 32 then some ⟨address - 1, by omega⟩ else none

/-- A panel can hold: resolved version 2 or 3, and the hold-report flag set (R148). -/
def Panel.canHold (e : Panel) : Bool :=
  (e.version == some 2 || e.version == some 3) && (e.caps.map (·.canReport)).getD false

/-- The hold check (R164): the refusal, or none when the panel may hold. -/
def holdCheck (p : Fin 32) (s : State) : Option Status :=
  if (s.entry p).canHold = false then some .notReady
  else if (s.entry p).holdings.isEmpty ∧ 4 ≤ s.panel.fast.length then some .busy
  else none

/-- A panel joins the fast-poll list at its tail (R159). -/
def joinFast (p : Fin 32) (s : State) : State :=
  if s.panel.fast.contains p then s
  else { s with panel := { s.panel with fast := s.panel.fast ++ [p] } }

/-- The round-robin pointer when the panel at position i leaves a list: it keeps its place, from the tail
back to the head (R157). -/
def pointerAfter (i next len : Nat) : Nat :=
  let n := if i < next then next - 1 else next
  if n < len then n else 0

/-- A panel leaves the fast-poll list (R159). -/
def leaveFast (p : Fin 32) (s : State) : State :=
  if s.panel.fast.contains p then
    let l := s.panel.fast.erase p
    { s with panel := { s.panel with
        fast := l, fastNext := pointerAfter (s.panel.fast.idxOf p) s.panel.fastNext l.length } }
  else s

/-- A holding begins, or its deadman restarts if the key and the subject already hold (R165). -/
def beginHolding (address key : Nat) (sub : HoldSubject) (s : State) : State :=
  match panelOf address with
  | none => s
  | some p =>
    let e := s.entry p
    let h : Holding := ⟨key, sub, s.cfg.limits.deadman⟩
    if e.holdings.any (fun x => x.key == key && x.subject == sub) then
      s.setEntry p
        { e with holdings := e.holdings.map (fun x => if x.key = key ∧ x.subject = sub then h else x) }
    else joinFast p (s.setEntry p { e with holdings := e.holdings ++ [h] })

/-- A holding ends; with the last one the panel leaves the fast-poll list (R165). -/
def endHolding (address key : Nat) (sub : HoldSubject) (s : State) : State :=
  match panelOf address with
  | none => s
  | some p =>
    let e := s.entry p
    let rest := e.holdings.filter fun x => !(x.key == key && x.subject == sub)
    let s1 := s.setEntry p { e with holdings := rest }
    if rest.isEmpty then leaveFast p s1 else s1

/-- A HOLD or HELD report for a key restarts the deadman of its holding (R166). -/
def feedDeadman (p : Fin 32) (key : Nat) (s : State) : State :=
  let e := s.entry p
  let h (x : Holding) : Holding :=
    if x.key = key then { x with deadman := s.cfg.limits.deadman } else x
  s.setEntry p { e with holdings := e.holdings.map h }

end Sys2Proof.Machine
end

