-- ==== Sys2Proof/Machine/Permits.lean ====
section
/-! DEFINITION. The Permit block's judgements (05_permits_and_vessel_state.md): the active source, the fixed
interlocks, and the permit terms. Stopping what fails a re-check is in Machine/Watch.lean. -/

namespace Sys2Proof.Machine

/-! ### The vessel state record (R75 to R78) -/

/-- The record is FRESH. -/
def State.fresh (s : State) : Bool := s.vessel.fresh.isSome

/-- The source the record would name if FRESH: the two lower rows of R78. -/
def State.sourceIfFresh (s : State) : Source :=
  if s.roleActive .shorePresent ∧ s.cfg.general.shoreInputWins then .shore else s.vessel.source

/-- The active source by R78. -/
def State.derivedSource (s : State) : Source := if s.fresh then s.sourceIfFresh else .battery

/-- Derive the active source anew; a new value starts an evaluation and gives SOURCE_CHANGED with its cause:
REPORT 0, FRESHNESS 1, SHORE_INPUT 2 (R78, R89). -/
def deriveSource (cause : Nat) (s : State) : State :=
  if s.derivedSource = s.vessel.active then s
  else
    notice .sourceChanged 0 [codeIn sources s.vessel.active, codeIn sources s.derivedSource, cause]
      (evaluate { s with vessel := { s.vessel with active := s.derivedSource } })

/-- The record becomes STALE, with the cause TIMER 0 or SUPERVISION 1 (R77). -/
def becomeStale (cause : Nat) (s : State) : State :=
  if s.fresh then
    deriveSource 1 (notice .vesselStale 0 [s.vessel.speed, codeIn sources s.vessel.source, cause]
      { s with vessel := { s.vessel with fresh := none } })
  else s

/-- An accepted SET_VESSEL_DATA: steps 1 to 3 of R76, with VESSEL_FRESH if the record was STALE. A change of
the source has the cause REPORT, also where the record has just become FRESH (log 43). VESSEL_FRESH is given at step
2, before what the derivation gives (the model's choice, log 115). -/
def takeVesselData (speed : Nat) (source : Source) (s : State) : State :=
  let s1 := { s with vessel :=
    { s.vessel with speed := min speed 999, source := source, fresh := some 3000 } }
  let s2 := if s.fresh then s1
    else notice .vesselFresh 0 [s1.vessel.speed, codeIn sources source] s1
  deriveSource 0 s2

/-! ### The fixed interlocks (R80, R81) -/

/-- The platform is clear: the three conditions of R80, which a platform in FAULT(POSITION_SENSOR) meets once its
sensor is valid again (R103, log 44). -/
def State.platformClear (s : State) : Bool :=
  !s.stern.platform.state.moving &&
  match s.position .platform with
  | none => false
  | some v => s.stern.clearance ≤ v

/-- The code of an interlock: 1 to 5 (R213). -/
def Interlock.code (i : Interlock) : Nat := codeIn interlocks i + 1

/-- An interlock fails for the start of an axis toward a settled target (R81). HATCH_NOT_STOWED takes a changed
HATCH_CLEARANCE at once, the clear state at its next judgement (R80; the model's choice, log 73). -/
def Interlock.fails (i : Interlock) (a : AxisId) (target : Nat) (s : State) : Bool :=
  match i with
  | .platformNotClear => a == .hatch && !s.platformClear
  | .hatchMoving => a == .platform && s.stern.hatch.state.moving
  | .hatchNotStowed =>
    a == .platform && decide (target < s.cfg.limits.hatchClearance) && s.stern.hatch.state != .stowed
  | .tenderInPath => a == .hatch && target == 0 && s.roleActive .tenderCradle
  | .latchOpen => target == 0 && s.roleActive (latchRole a)

/-- The first interlock of the table that fails. -/
def failingInterlock (a : AxisId) (target : Nat) (s : State) : Option Interlock :=
  interlocks.find? fun i => i.fails a target s

/-! ### The permit terms (R83 to R85) -/

/-- A digital input, by its number, is validated active. -/
def State.inputActive (s : State) (n : Nat) : Bool :=
  if h : n < 16 then s.validated ⟨n, h⟩ else false

/-- A term judged in the start view, or in the continuous view (R84). -/
def Term.holds (t : Term) (continuous : Bool) (s : State) : Bool :=
  match t.cond with
  | .speedBelow => (continuous || s.fresh) && decide (s.vessel.speed < t.param)
  | .inputActive => s.inputActive t.param
  | .inputInactive => !s.inputActive t.param
  | .anchored => s.vessel.anchored
  | .notAnchored => !s.vessel.anchored
  | .sourceIs =>
    codeIn sources (if continuous then s.sourceIfFresh else s.vessel.active) == t.param
  | .linked => s.link.device == .linked

/-- A term applies to a subject and a direction (R85). -/
def Term.applies (t : Term) (sub : Subject) (d : Dir) : Bool :=
  t.enabled && t.subject == sub &&
  match t.dir with
  | .any => true
  | .outward => d == .outward
  | .inward => d == .inward

/-- The terms that apply to a subject and a direction, with their numbers; only the CONTINUOUS ones for a
re-check (R86, R87, log 27). -/
def State.termsFor (s : State) (sub : Subject) (d : Dir) (continuous : Bool) : List (Nat × Term) :=
  ((List.finRange 16).map fun i => (i.val, s.cfg.limits.terms[i])).filter fun p =>
    p.2.applies sub d && (!continuous || p.2.continuous)

/-- A group is true among the terms that apply: one of its terms is true, or it has none (R85). -/
def groupHolds (ts : List (Nat × Term)) (continuous : Bool) (g : Nat) (s : State) : Bool :=
  let inG := ts.filter fun p => p.2.group == g
  inG.isEmpty || inG.any fun p => p.2.holds continuous s

/-- The failing term of a refused permit: the lowest that applies in a false group; none when the permit is
granted (R85). -/
def failingTerm (sub : Subject) (d : Dir) (continuous : Bool) (s : State) : Option Nat :=
  let ts := s.termsFor sub d continuous
  (ts.find? fun p => !groupHolds ts continuous p.2.group s).map (·.1)

/-- The Permit block judges a start of an axis (R86): the refusal with its detail, or none. -/
def axisPermit (a : AxisId) (target : Nat) (d : Dir) (s : State) : Option (Status × Nat) :=
  match failingInterlock a target s with
  | some i => some (.interlock, i.code)
  | none =>
    (failingTerm (match a with | .platform => .platform | .hatch => .hatch) d false s).map
      fun n => (.notPermitted, n)

/-- The Permit block judges a start of the windlass (R86). -/
def windlassPermit (d : Dir) (s : State) : Option (Status × Nat) :=
  (failingTerm .windlass d false s).map fun n => (.notPermitted, n)

/-! ### The watch (R87) -/

/-- What a re-check is made for: a change of an input of the terms (R87). -/
inductive Change where
  | input (n : Nat) | speed | source | anchored | device
  deriving DecidableEq, Repr

/-- A condition reads what has changed. -/
def Term.reads (t : Term) : Change → Bool
  | .input n => (t.cond == .inputActive || t.cond == .inputInactive) && t.param == n
  | .speed => t.cond == .speedBelow
  | .source => t.cond == .sourceIs
  | .anchored => t.cond == .anchored || t.cond == .notAnchored
  | .device => t.cond == .linked

/-- The present direction of a watched subject, none while it is not watched (R85, R87). -/
def State.watchedDir (s : State) : Subject → Option Dir
  | .platform => dirOfAxis s.stern.platform.state
  | .hatch => dirOfAxis s.stern.hatch.state
  | .windlass =>
    match s.wl.state with
    | .lowering | .freeFall => some .outward
    | .hoisting | .jogging => some .inward
    | .idle | .braking | .lockout | .fault => none
where
  /-- The direction of an axis in a watched state. -/
  dirOfAxis : AxState → Option Dir
    | .unlatching | .extending => some .outward
    | .retracting => some .inward
    | .stowed | .latching | .extended | .halted | .fault => none

/-- The re-check of one subject at a set of changes: the failing term if the subject is watched, a
CONTINUOUS term that applies reads one of the changes, and the permit is refused (R87). -/
def recheckTerm (chs : List Change) (sub : Subject) (s : State) : Option Nat :=
  match s.watchedDir sub with
  | none => none
  | some d =>
    if (s.termsFor sub d true).any fun p => chs.any p.2.reads then failingTerm sub d true s else none

end Sys2Proof.Machine
end

