-- ==== Sys2Proof/Machine/Stern.lean ====
section
/-! DEFINITION. The Stern Motion block (06_stern_motion_swim_platform_and_garage_hatch.md): the two axes, the
hydraulic pack and the stern sequences. -/

namespace Sys2Proof.Machine

/-! ### What an axis tells (R91, R96, R113) -/

/-- The platform's clear state is judged, at each of its new positions and states: HATCH_CLEARANCE as it now
stands applies until the next judgement (R80). A judgement at a new state stops no hatch in motion, for which R82
names the platform's position as the only cause: `watchHatch` does, at the next conversion (the model's choice,
log 95). -/
def judgeClear (a : AxisId) (s : State) : State :=
  match a with
  | .platform => { s with stern := { s.stern with clearance := s.cfg.limits.hatchClearance } }
  | .hatch => s

/-- An axis takes a new state; the beacon follows it (R16), and the platform's clear state is judged, which stops
no hatch (R80, log 95). -/
def axisTo (a : AxisId) (st : AxState) (s : State) : State :=
  beaconUpdate (judgeClear a (s.modAxis a fun x => { x with state := st }))

/-- The holding subject of an axis. -/
def axisSubject : AxisId → HoldSubject
  | .platform => .platform
  | .hatch => .hatch

/-- An axis's holder becomes NONE; a panel's holding ends with it (R91, R96). -/
def dropHolder (a : AxisId) (s : State) : State :=
  let s1 := s.modAxis a fun x => { x with holder := .none }
  match (s.axis a).holder with
  | .panel ad k => endHolding ad k (axisSubject a) s1
  | .none | .host | .sequence | .bindingAuto => s1

/-- The sequence context is in a step (R110). -/
def Seq.running (q : Seq) : Bool := q.state == .step1 || q.state == .step2

/-- The number of the sequence that is in a step. -/
def State.inStep (s : State) : Option Nat := if s.stern.seq.running then some s.stern.seqCount else none

/-- The number of the sequence whose step runs on an axis. -/
def State.stepOn (s : State) (a : AxisId) : Option Nat := if s.stern.seq.axis = some a then s.inStep else none

/-- A sequence is told what its step comes to (R113). It is named by its number as it stood before the axis's
own event was offered, so a sequence that a binding on this event starts is told nothing of it (log 55). -/
def tellSeq (who : Option Nat) (e : SeqEvent) (s : State) : State :=
  match who with
  | none => s
  | some n => { s with stern := { s.stern with seqWork := s.stern.seqWork ++ [(n, e)] } }

/-- The position as a notice value. -/
def State.positionValue (s : State) (a : AxisId) : Int := valueOpt16 (s.position a)

/-! ### The pack (R92) -/

/-- The direction valve closes and the flow duty becomes 0. -/
def closeValve (s : State) : State := s.setPack { s.stern.pack with valve := none, flow := 0 }

/-- The pump contactor goes off, and with it every output of the pack but the latch solenoids. -/
def packOff (s : State) : State := s.setPack {}

/-- The valve closes and the pump enters RUN_ON for an axis, 200 ms (R99, R100, R106). -/
def enterRunOn (a : AxisId) (s : State) : State :=
  s.setPack { s.stern.pack with pump := .runOn, axis := some a, runOn := 200, valve := none, flow := 0 }

/-- The distance between an axis's target and a position (R98). -/
def distance (target v : Nat) : Nat := (target - v) + (v - target)

/-- The flow duty at a position (R98). -/
def flowFor (k : AxisCfg) (target v : Nat) : Nat :=
  if k.slowZone < distance target v then k.flowFull else k.flowCreep

/-- A position has reached the target in the direction of the move (R102). -/
def targetReached (st : AxState) (target v : Nat) : Bool :=
  if st = .extending then target ≤ v else v ≤ target

/-- The pump lead ends: the axis's direction valve opens, and the progress window with it (R98, R102). -/
def openValve (a : AxisId) (s : State) : State :=
  let x := s.axis a
  let v := (s.position a).getD 0
  let d : Dir := if x.state = .extending then .outward else .inward
  let s1 := s.setPack { s.stern.pack with
    pump := .running, valve := some (a, d), flow := flowFor (s.axCfg a) x.target v }
  s1.modAxis a fun y =>
    { y with window := if targetReached y.state y.target v then none else some (v, 0) }

/-- The pump on-time has reached the lead it was switched on with: the valve opens (R98). -/
def leadOver (a : AxisId) (s : State) : State :=
  if s.stern.pack.pump = .lead ∧ reached s.stern.pack.onMs s.stern.pack.lead then openValve a s else s

/-- Entry into EXTENDING or RETRACTING (R98): the pump comes on, or stays on through a hand-over, which is judged by
PUMP_LEAD as it then stands in the working copy (the model's choice, log 88). -/
def enterDrive (a : AxisId) (st : AxState) (s : State) : State :=
  let on := s.stern.pack.pump == .runOn
  let s1 := axisTo a st (s.modAxis a fun x => { x with phaseMs := 0, window := none })
  leadOver a (s1.setPack { s1.stern.pack with
    pump := .lead, axis := some a, runOn := 0, lead := (s.axCfg a).pumpLead,
    onMs := if on then s1.stern.pack.onMs else 0 })

/-! ### Arrivals and latching (R99, R100) -/

/-- An axis comes to rest STOWED: state, holder, notice, event (R100). -/
def restStowed (off : Offer) (a : AxisId) (s : State) : State :=
  let s1 := dropHolder a (axisTo a .stowed s)
  off (.internal .axisStowed (axisIdx a) none)
    (notice .axStowed (axisIdx a) [s1.positionValue a] s1)

/-- An axis in LATCHING whose latch input is validated inactive becomes STOWED (R100 step 2). -/
def latchCheck (off : Offer) (a : AxisId) (s : State) : State :=
  if (s.axis a).state = .latching ∧ s.roleActive (latchRole a) = false then
    tellSeq (s.stepOn a) (.reached a .stowed) (restStowed off a s)
  else s

/-- Entry into LATCHING: the phase timer starts from 0 (R100, R106). -/
def enterLatching (a : AxisId) (s : State) : State :=
  axisTo a .latching (s.modAxis a fun x => { x with phaseMs := 0, window := none, latchHold := false })

/-- A retracting axis reaches its stow end (R100). -/
def stowEnd (off : Offer) (a : AxisId) (s : State) : State :=
  latchCheck off a (enterLatching a (enterRunOn a s))

/-- An axis comes to rest EXTENDED: state, holder, notice, event (R99, R106). -/
def restExtended (off : Offer) (a : AxisId) (s : State) : State :=
  let s1 := dropHolder a (axisTo a .extended s)
  off (.internal .axisExtended (axisIdx a) none)
    (notice .axExtended (axisIdx a) [s1.positionValue a] s1)

/-- An axis that drove leaves its drive: the valve closes, the latch hold is cleared, the pump runs on. -/
def endDrive (a : AxisId) (s : State) : State :=
  (enterRunOn a s).modAxis a fun x => { x with latchHold := false, window := none }

/-- An arrival (R99). -/
def arrive (off : Offer) (a : AxisId) (s : State) : State :=
  tellSeq (s.stepOn a) (.reached a .extended) (restExtended off a (endDrive a s))

/-! ### Faults (R104) -/

/-- The STERN entry is held for an axis: in UNLATCHING, EXTENDING or RETRACTING, or in its run-on. -/
def State.sternHeldFor (s : State) (a : AxisId) : Bool :=
  (s.axis a).state.watched || (s.stern.pack.pump == .runOn && s.stern.pack.axis == some a)

/-- A fault of an axis by R104; one of an axis already in FAULT changes nothing. -/
def axisFault0 (off : Offer) (a : AxisId) (cause : AxCause) (detail : Nat) (s : State) : State :=
  let x := s.axis a
  if x.state = .fault then s
  else
    let drives := s.sternHeldFor a
    let s1 := if drives ∧ s.stern.pack.axis = some a then packOff s else s
    let s2 := if drives ∧ cause ≠ .supply then freeRes .stern s1 else s1
    let s3 := dropHolder a (axisTo a .fault (s2.modAxis a fun y =>
      { y with latchHold := false, window := none,
               fault := some ⟨cause, x.state, s.position a, x.runMs, detail⟩ }))
    let s4 := notice .axFault (axisIdx a)
      [codeIn axCauses cause, codeIn axStates x.state, s.positionValue a, detail] s3
    tellSeq (s.stepOn a) (.faulted a cause) (off (.internal .axisFault (axisIdx a) none) s4)

/-- The hatch has left STOWED: a platform driven toward a target below HATCH_CLEARANCE, as it stands in the working
copy (the model's choice, log 73), is stopped with fault INTERLOCK (R82), after what the hatch itself has given (the
model's choice, log 105). -/
def watchPlatform (off : Offer) (s : State) : State :=
  if s.stern.platform.state.watched ∧ s.stern.platform.target < s.cfg.limits.hatchClearance then
    axisFault0 off .platform .interlock Interlock.hatchNotStowed.code s
  else s

/-- A fault of an axis, with what the Permit block makes of a hatch that leaves STOWED by it (R82, R104). The hatch's
own fault, its notice, its event and their bindings, is complete before the platform is stopped (the model's choice,
log 105). -/
def axisFault (off : Offer) (a : AxisId) (cause : AxCause) (detail : Nat) (s : State) : State :=
  let s1 := axisFault0 off a cause detail s
  if a = .hatch ∧ s.stern.hatch.state = .stowed then watchPlatform off s1 else s1

/-- The platform is no longer clear by its position: a hatch in motion is stopped with fault INTERLOCK (R82). This
is watched at each conversion of the platform's position, so a raised HATCH_CLEARANCE that a change of the
platform's state has taken stops the hatch at the next conversion (the model's choice, log 95). -/
def watchHatch (off : Offer) (s : State) : State :=
  let low : Bool := match s.position .platform with
    | none => true
    | some v => v < s.stern.clearance
  if s.stern.hatch.state.watched ∧ low then
    axisFault off .hatch .interlock Interlock.platformNotClear.code s
  else s

/-! ### Stops (R106) -/

/-- A stop of an axis by R106. A sequence hears of it after the axis's own notices and events (log 55). -/
def stopAxis (off : Offer) (a : AxisId) (s : State) : State :=
  let stopped := tellSeq (s.stepOn a) (.stopped a)
  match (s.axis a).state with
  | .unlatching =>
    let s1 := dropHolder a (enterLatching a (freeRes .stern s))
    stopped (if s1.roleActive (latchRole a) then s1 else restStowed off a s1)
  | .extending | .retracting =>
    let s1 := endDrive a s
    if s.roleActive (outRole a) then stopped (restExtended off a s1)
    else
      let s2 := dropHolder a (axisTo a .halted s1)
      let s3 := notice .axHalted (axisIdx a) [s2.positionValue a, (s2.axis a).runMs] s2
      stopped (off (.internal .axisHalted (axisIdx a) none) s3)
  | .latching => stopped (dropHolder a s)
  | .stowed | .extended | .halted | .fault => dropHolder a s

/-! ### Starts (R94 to R96, R109) -/

/-- The target is settled (R94). -/
def settleTarget (a : AxisId) (target : Nat) (l : LimitsSec) : Nat :=
  match a with
  | .platform => if target = 0 then 0 else min 1000 (max target l.platMinTarget)
  | .hatch => if target = 0 then 0 else 1000

/-- The kind of a move: its first phase and its direction (R94). -/
inductive Move where
  | unlatch | latch | retract | extend
  deriving DecidableEq, Repr

/-- The direction of a move. -/
def Move.dir : Move → Dir
  | .unlatch | .extend => .outward
  | .latch | .retract => .inward

/-- The move that a settled target asks of an axis at rest; none where there is none (R94). -/
def State.moveFor (s : State) (a : AxisId) (target : Nat) : Option Move :=
  if (s.axis a).state = .stowed then (if target = 0 then none else some .unlatch)
  else if target = 0 then some (if s.roleActive (stowRole a) then .latch else .retract)
  else
    let v := (s.position a).getD 0
    if v < target then some .extend else if target < v then some .retract else none

/-- The move needs an input role that is absent: the latch role out of STOWED, the stow end and latch roles
toward 0 (R95 check 5, made before check 6 also where there is no move, log 35). -/
def State.lacksRole (s : State) (a : AxisId) (target : Nat) : Bool :=
  if target = 0 then !s.roleHeld (stowRole a) || !s.roleHeld (latchRole a)
  else (s.axis a).state == .stowed && !s.roleHeld (latchRole a)

/-- Step 8 of R95: no reservation for a move that goes straight to LATCHING; the resize of the hand-over while
the pump runs on (R109), which ends the run-on; else a new request (R28), also where the Supply Budget block
still holds the entry that it is about to remove (R35 step 2), which carries no run. A move straight to LATCHING
leaves every run-on to end by itself, the axis's own as well (the model's choice, log 75). -/
def admitMove (a : AxisId) (m : Move) (s : State) : Except Status State :=
  if m = .latch then .ok s
  else if s.stern.pack.pump = .runOn then
    match reserveFor .stern (s.axCfg a).amount s with
    | .error c => .error c
    | .ok s1 => .ok (if m = .unlatch then packOff s1 else s1)
  else requestNew .stern (s.axCfg a).amount s

/-- Enter the first phase of a move. -/
def firstPhase (a : AxisId) (m : Move) (s : State) : State :=
  match m with
  | .unlatch => axisTo a .unlatching (s.modAxis a fun x =>
      { x with phaseMs := 0, window := none, latchHold := true })
  | .latch => enterLatching a s
  | .retract => enterDrive a .retracting s
  | .extend => enterDrive a .extending s

/-- A PANEL holder is told to the Panel Bus block (R96). -/
def tellHolder (a : AxisId) (h : AxHolder) (s : State) : State :=
  match h with
  | .panel ad k => beginHolding ad k (axisSubject a) s
  | .none | .host | .sequence | .bindingAuto => s

/-- A start that has passed its checks (R95). A move straight to LATCHING that finds its latch closed becomes STOWED
at the entry (R100 step 2): STARTED and AXIS_START, with what a binding makes of it, come before STOWED and
AXIS_STOWED (the model's choice, log 97). -/
def beginMove (off : Offer) (a : AxisId) (target : Nat) (h : AxHolder) (m : Move) (s : State) : State :=
  let s1 := tellHolder a h (s.modAxis a fun x => { x with target := target, holder := h, runMs := 0 })
  let s2 := firstPhase a m s1
  let s3 := notice .axStarted (axisIdx a) [h.triple.1, target, codeIn dirs m.dir] s2
  latchCheck off a (off (.internal .axisStart (axisIdx a) none) s3)

/-- A hold-to-run start from a panel key that reaches an axis moving under another panel key (R96). -/
def heldElsewhere (present asked : AxHolder) : Bool :=
  match present, asked with
  | .panel a k, .panel a' k' => !(a == a' && k == k')
  | _, _ => false

/-- A start of an axis toward a requested target (R94, R95). -/
def startAxis (off : Offer) (a : AxisId) (requested : Nat) (h : AxHolder) (s : State) : StartRes × State :=
  let x := s.axis a
  let target := settleTarget a requested s.cfg.limits
  if x.state = .fault then (.refused .faulted 0, s)
  else if x.state.moving then
    if heldElsewhere x.holder h then
      match h with
      | .panel ad k => (.ignored, notice .holdIgnored ad [k, axisIdx a] s)
      | .none | .host | .sequence | .bindingAuto => (.refused .busy 0, s)
    else (.refused .busy 0, s)
  else if s.stern.seq.running ∧ h ≠ .sequence then (.refused .busy 0, s)
  else if 0 < x.cooldown.getD 0 then (.refused .lockout 0, s)
  else if s.lacksRole a target then (.refused .notReady 0, s)
  else match s.moveFor a target with
    | none => (.done, s)
    | some m =>
      match axisPermit a target m.dir s with
      | some r => (.refused r.1 r.2, s)
      | none =>
        match admitMove a m s with
        | .error c => (.refused c 0, s)
        | .ok s1 => (.begun, beginMove off a target h m s1)

/-! ### Sequences (R110 to R113) -/

/-- What a step of a sequence asks: an axis, its target and the state that ends the step; none when the step
is skipped (R111, R112). -/
def seqPlan (k : SeqKind) (step : Nat) (s : State) : Option (AxisId × Nat × AxState) :=
  match k, step with
  | .garageOpen, 1 => if s.platformClear then none else some (.platform, s.cfg.limits.garagePos, .extended)
  | .garageOpen, _ => if s.stern.hatch.state = .extended then none else some (.hatch, 1000, .extended)
  | .garageClose, 1 => if s.stern.hatch.state = .stowed then none else some (.hatch, 0, .stowed)
  | .garageClose, _ =>
    if s.cfg.axes.stowAfterClose = false ∨ s.stern.platform.state = .stowed then none
    else some (.platform, 0, .stowed)

/-- The step the context is in. -/
def Seq.step (q : Seq) : Nat := if q.state = .step2 then 2 else 1

/-- The step and the end cause of a sequence as notice values; absent when it is DONE (R213, log 16). -/
def seqEndValues : Option (Nat × SeqCause) → List Int
  | none => [255, 65535]
  | some e => [e.1, value2 e.2.pair]

/-- The context enters DONE or ABORTED: a panel's holding ends, SEQUENCE_END is given and raised (R113). -/
def endSeq (off : Offer) (ended : Option (Nat × SeqCause)) (s : State) : State :=
  let q := s.stern.seq
  let s1 := s.setSeq { q with
    state := if ended.isSome then .aborted else .done, axis := none, ended := ended }
  let s2 := match q.holder with
    | .panel a k => endHolding a k .sequence s1
    | .host | .bindingAuto => s1
  let kind := (q.kind.map (codeIn seqKinds)).getD 255
  let outcome : Nat := if ended.isSome then 1 else 0
  off (.internal .sequenceEnd kind (some outcome))
    (notice .sequenceEnd 2 ([(kind : Int), outcome] ++ seqEndValues ended) s2)

/-- A step of the sequence begins: skipped, its start taken as done, or begun, or refused; the last two end
the recursion, whose first argument counts the steps left (R111 to R113). The refusal is answered. -/
def runStep (off : Offer) : Nat → State → Option (Status × Nat) × State
  | 0, s => (none, endSeq off none s)
  | n + 1, s =>
    let q := s.stern.seq
    let step := 2 - n
    let s1 := s.setSeq { q with state := if step = 1 then .step1 else .step2, axis := none }
    match q.kind.bind fun k => seqPlan k step s1 with
    | none => runStep off n s1
    | some p =>
      let r := startAxis off p.1 p.2.1 .sequence
        (s1.setSeq { s1.stern.seq with axis := some p.1 })
      match r.1 with
      | .begun => (none, r.2)
      | .done | .ignored => runStep off n r.2
      | .refused c d => (some (c, d), endSeq off (some (step, .refused c)) r.2)

/-- A sequence takes one thing it has been told (R113), while it is the one in a step. -/
def seqTake (off : Offer) (w : Nat × SeqEvent) (s : State) : State :=
  let q := s.stern.seq
  if s.inStep ≠ some w.1 then s
  else match w.2 with
    | .reached a st =>
      if q.axis = some a ∧ q.kind.map endState = some st then
        (runStep off (2 - q.step) s).2
      else s
    | .stopped a => if q.axis = some a then endSeq off (some (q.step, .stopped)) s else s
    | .named => endSeq off (some (q.step, .stopped)) s
    | .faulted a c => if q.axis = some a then endSeq off (some (q.step, .faulted c)) s else s
where
  /-- The state that ends each step of a kind (R111, R112). -/
  endState : SeqKind → AxState
    | .garageOpen => .extended
    | .garageClose => .stowed

/-- The event that an axis raises at the end of a step (R99, R100). -/
def reachedEvent (a : AxisId) (st : AxState) : Event :=
  .internal (if st = .stowed then .axisStowed else .axisExtended) (axisIdx a) none

/-- A step's end waits until a binding on the axis's own event has acted: while an action is carried out, and
while the event stands in the event list (R113, R173). -/
def State.heldBack (s : State) (e : SeqEvent) : Bool :=
  match e with
  | .reached a st => s.bind.acting.isSome || s.bind.events.any fun q => q.event == reachedEvent a st
  | .stopped _ | .named | .faulted _ _ => false

/-- The sequence takes what it has been told and is not held back, in order; what its own starts tell it comes
after. The first argument bounds the rounds: a round begins at most the second step. -/
def sternSettle (off : Offer) : Nat → State → State
  | 0, s => s
  | n + 1, s =>
    match s.stern.seqWork.find? fun w => !s.heldBack w.2 with
    | none => s
    | some w =>
      sternSettle off n (seqTake off w { s with stern := { s.stern with seqWork := s.stern.seqWork.erase w } })

/-- Settle the sequence at the end of what an axis did. -/
def settleSeq (off : Offer) (s : State) : State := sternSettle off 12 s

/-- A new sequence takes the context, under the next number. -/
def State.newSeq (s : State) (q : Seq) : State :=
  { s with stern := { s.stern with seq := q, seqCount := s.stern.seqCount + 1 } }

/-- A start of a sequence (R110): BUSY in a step, also for a hold from another panel than the holder (the model's
choice, log 79); else the first step begins, and a panel holder is told. The
answer is the refusal of a step that `runStep` meets at once, also of STEP2 after a skipped STEP1, and also where
a binding on its SEQUENCE_END has started another sequence within the request; a context that is ABORTED
otherwise within the start is answered OK (log 48). -/
def startSequence (off : Offer) (k : SeqKind) (h : SeqHolder) (s : State) : StartRes × State :=
  if s.stern.seq.running then (.refused .busy 0, s)
  else
    let s1 := s.newSeq { state := .step1, kind := some k, axis := none, holder := h, ended := none }
    let s2 := match h with
      | .panel a key => beginHolding a key .sequence s1
      | .host | .bindingAuto => s1
    let r := runStep off 2 s2
    let s3 := settleSeq off r.2
    match r.1 with
    | some c => (.refused c.1 c.2, s3)
    | none => (.begun, s3)

/-! ### Commands and reports (R107, R114) -/

/-- An axis start that settles the sequence after it. -/
def commandMove (off : Offer) (a : AxisId) (target : Nat) (h : AxHolder) (s : State) : StartRes × State :=
  let r := startAxis off a target h s
  (r.1, settleSeq off r.2)

/-- The axis is stopped by an AXIS_STOP naming PLATFORM 0, HATCH 1 or BOTH 2: it is named, or it is the axis
of the running step, which is stopped in any case (R107, R113, R213). -/
def State.stopReaches (s : State) (which : Nat) (a : AxisId) : Bool :=
  which == axisIdx a || which == 2 || (s.stern.seq.running && s.stern.seq.axis == some a)

/-- AXIS_STOP naming PLATFORM 0, HATCH 1 or BOTH 2 (R107, R113): the axes are stopped, and a sequence that was
in a step when the command was taken is told of it. The platform is stopped before the hatch, so a hatch that a
binding on the platform's stop starts is stopped too, and a platform started by one on the hatch's stop goes on (the
model's choice, log 96). -/
def commandStop (off : Offer) (which : Nat) (s : State) : State :=
  let s1 := if s.stopReaches which .platform then settleSeq off (stopAxis off .platform s) else s
  let s2 := if s.stopReaches which .hatch then settleSeq off (stopAxis off .hatch s1) else s1
  settleSeq off (tellSeq s.inStep .named s2)

/-- A stop of the axis of the running step, for the sequence's holder (R107). -/
def stopStepAxis (off : Offer) (s : State) : State :=
  match s.stern.seq.axis with
  | some a => settleSeq off (stopAxis off a s)
  | none => s

/-- RELEASE, DEADMAN or LINK_DOWN for a key that holds an axis; a report that names another holder changes
nothing (R107). -/
def axisReport (off : Offer) (a : AxisId) (address key : Nat) (s : State) : State :=
  if (s.axis a).holder = .panel address key then settleSeq off (stopAxis off a s) else s

/-- The same for a key that holds the sequence (R107). -/
def seqReport (off : Offer) (address key : Nat) (s : State) : State :=
  if s.stern.seq.running ∧ s.stern.seq.holder = .panel address key then stopStepAxis off s else s

/-- The device enters STANDALONE: the axes held by HOST, or by a sequence held by HOST, are stopped (R107). -/
def sternStandalone (off : Offer) (s : State) : State :=
  let hostHeld (s : State) (a : AxisId) : Bool :=
    (s.axis a).holder == .host || ((s.axis a).holder == .sequence && s.stern.seq.holder == .host)
  let s1 := if hostHeld s .platform then settleSeq off (stopAxis off .platform s) else s
  if hostHeld s1 .hatch then settleSeq off (stopAxis off .hatch s1) else s1

/-- The Supply Budget block has entered CRITICAL (R35 step 1, R108): a run-on is cut, and moving axes fault
with SUPPLY. The outputs are off before anything that hears of a fault acts. -/
def sternCritical (off : Offer) (s : State) : State :=
  let s1 := if s.stern.pack.pump = .runOn then packOff s else s
  let s2 := if s1.stern.platform.state.watched then axisFault off .platform .supply 0 s1 else s1
  settleSeq off (if s2.stern.hatch.state.watched then axisFault off .hatch .supply 0 s2 else s2)

/-! ### Inputs (R97 to R103, R105) -/

/-- A position input's conversion is taken by its axis (R98 to R100, R102, R103). -/
def axisPosition (off : Offer) (a : AxisId) (s : State) : State :=
  let x := s.axis a
  match s.position a with
  | none => axisFault off a .positionSensor 0 s
  | some v =>
    if x.state = .extending ∧ x.target ≤ v then arrive off a s
    else if x.state = .retracting ∧ x.target ≠ 0 ∧ v ≤ x.target then arrive off a s
    else if x.state.driving ∧ s.stern.pack.valve.isSome then
      let s1 := s.setPack { s.stern.pack with flow := flowFor (s.axCfg a) x.target v }
      s1.modAxis a fun y => { y with window := nextWindow y v }
    else s
where
  /-- The progress window after a conversion: over once the target is reached, begun again after a move of
  at least 5 toward it (R102). -/
  nextWindow (y : Axis) (v : Nat) : Option (Nat × Nat) :=
    match y.window with
    | none => none
    | some w =>
      if targetReached y.state y.target v then none
      else if (if y.state = .extending then w.1 + 5 ≤ v else v + 5 ≤ w.1) then some (v, 0)
      else some w

/-- The reader of a position input takes its conversion: the axis, and the watch of R82 for the platform's
position. What the axis itself gives, its fault with the bindings on it among them, comes before the stop of the
hatch (the model's choice, log 105). -/
def positionTaken (off : Offer) (a : AxisId) (s : State) : State :=
  let s1 := axisPosition off a (judgeClear a s)
  settleSeq off (if a = .platform then watchHatch off s1 else s1)

/-- An axis's stow end input is validated active or inactive (R97, R100, R105). An end that becomes inactive
while the axis is still UNLATCHING leaves the latch hold set (log 47). -/
def stowInput (off : Offer) (a : AxisId) (on : Bool) (s : State) : State :=
  match (s.axis a).state, on with
  | .retracting, true => stowEnd off a s
  | .stowed, false => axisFault off a .latch 0 s
  | .extending, false => s.modAxis a fun x => { x with latchHold := false }
  | _, _ => s

/-- An axis's out end input is validated active or inactive (R99). -/
def outInput (off : Offer) (a : AxisId) (on : Bool) (s : State) : State :=
  if on ∧ (s.axis a).state = .extending then arrive off a s else s

/-- An axis's latch input is validated active or inactive (R97, R100, R105). -/
def latchInput (off : Offer) (a : AxisId) (on : Bool) (s : State) : State :=
  match (s.axis a).state, on with
  | .unlatching, true => enterDrive a .extending s
  | .stowed, true => axisFault off a .latch 0 s
  | .latching, false => latchCheck off a s
  | _, _ => s

/-- A STOWED axis whose stow end or latch input has lost its role faults with LATCH (R105). -/
def stowedLoses (off : Offer) (a : AxisId) (s : State) : State :=
  if (s.axis a).state = .stowed then settleSeq off (axisFault off a .latch 0 s) else s

/-- TENDER_CRADLE becomes validated active: a hatch that closes is stopped with fault INTERLOCK (R82). -/
def tenderInput (off : Offer) (on : Bool) (s : State) : State :=
  if on ∧ s.stern.hatch.state = .retracting then
    axisFault off .hatch .interlock Interlock.tenderInPath.code s
  else s

/-! ### Timers (R97, R98, R99, R101, R102) -/

/-- UNLATCHING has lasted 3000 ms with the latch input not active (R97). -/
def unlatchTimeout (off : Offer) (a : AxisId) (s : State) : State :=
  if (s.axis a).state = .unlatching ∧ reached (s.axis a).phaseMs 3000 ∧
      s.roleActive (latchRole a) = false then
    settleSeq off (axisFault off a .latch 0 s)
  else s

/-- LATCHING has lasted 3000 ms with the latch input active (R100). -/
def latchTimeout (off : Offer) (a : AxisId) (s : State) : State :=
  if (s.axis a).state = .latching ∧ reached (s.axis a).phaseMs 3000 ∧ s.roleActive (latchRole a) then
    settleSeq off (axisFault off a .latch 0 s)
  else s

/-- The pump on-time reaches the lead: the axis's direction valve opens (R98). -/
def pumpLeadEnd (s : State) : State :=
  match s.stern.pack.axis with
  | some a => if (s.axis a).state.driving then leadOver a s else s
  | none => s

/-- The run-on timer ends: the pump goes off and STERN is released (R99). -/
def runOnEnd (s : State) : State :=
  if s.stern.pack.pump = .runOn ∧ s.stern.pack.runOn = 0 then freeRes .stern (packOff s) else s

/-- The run timer reaches RUN_LIMIT: fault RUN_TIMEOUT, then the cooldown (R101). -/
def runTimeout (off : Offer) (a : AxisId) (s : State) : State :=
  if (s.axis a).state.driving ∧ reached (s.axis a).runMs (s.runLimit a) then
    settleSeq off ((axisFault off a .runTimeout 0 s).modAxis a fun x =>
      { x with cooldown := some (s.cooldownTime a * 1000) })
  else s

/-- The cooldown remaining reaches 0 (R101). -/
def cooldownOver (a : AxisId) (s : State) : State :=
  if (s.axis a).cooldown = some 0 then
    notice .cooldownEnd (axisIdx a) [] (s.modAxis a fun x => { x with cooldown := none })
  else s

/-- 2000 ms without a move of 5 toward the target (R102). -/
def noProgress (off : Offer) (a : AxisId) (s : State) : State :=
  match (s.axis a).window with
  | some w =>
    if (s.axis a).state.driving ∧ s.stern.pack.valve.isSome ∧ reached w.2 2000 then
      settleSeq off (axisFault off a .noProgress 0 s)
    else s
  | none => s

/-! ### Clearing a fault, and start-up (R115, R117) -/

/-- The cause of a fault is still present (R115). -/
def State.causePresent (s : State) (a : AxisId) : Bool :=
  (s.position a).isNone ||
  (((s.axis a).fault.map (·.cause)) == some .supply && s.budget.supply == .critical) ||
  (s.roleActive (stowRole a) && s.roleActive (latchRole a))

/-- AXIS_CLEAR_FAULT (R115). The platform's new state has its clear state judged, which stops no hatch in motion (R80,
log 95). -/
def clearAxisFault (a : AxisId) (s : State) : State × Ans :=
  if (s.axis a).state ≠ .fault then (s, Ans.refused .notFaulted)
  else if s.causePresent a then (s, Ans.refused .faulted)
  else
    let st : AxState := if s.roleActive (stowRole a) then .stowed else .halted
    (notice .axFaultCleared (axisIdx a) [codeIn axStates st]
      (judgeClear a (s.modAxis a fun x => { x with state := st, fault := none })), Ans.ok)

/-- An axis takes its state from its inputs at step 4 of start-up (R117). -/
def axisStartUp (off : Offer) (a : AxisId) (s : State) : State :=
  if (s.position a).isNone then
    let s1 := axisTo a .fault (s.modAxis a fun x =>
      { x with fault := some ⟨.positionSensor, .halted, none, 0, 0⟩ })
    off (.internal .axisFault (axisIdx a) none)
      (notice .axFault (axisIdx a)
        [codeIn axCauses .positionSensor, codeIn axStates .halted, valueOpt16 none, 0] s1)
  else if s.roleActive (stowRole a) ∧ s.roleActive (latchRole a) = false then
    axisTo a .stowed s
  else axisTo a .halted s

end Sys2Proof.Machine
end

