-- ==== Sys2Proof/Machine/WindlassCore.lean ====
section
/-! DEFINITION. The Windlass block's ends of a run (R132 to R134) and the count cell (R124, R209). -/

namespace Sys2Proof.Machine

/-! ### The count cell (R209) -/

/-- A slot as the reader finds it: its content where the slot is valid, none where it is not. A slot whose check
fails is held as none; one whose count lies above 9999 is not valid either (R209). -/
def validSlot (c : Option CellSlot) : Option CellSlot := c.filter fun x => x.count ≤ 9999

/-- The newest valid slot, true for A: where both are valid, the one whose sequence number is one above the
other's, and A where they do not follow each other; none when neither is valid. -/
def newestSlot (a b : Option CellSlot) : Option Bool :=
  match validSlot a, validSlot b with
  | none, none => none
  | some _, none => some true
  | none, some _ => some false
  | some x, some y => some (!(y.seq == (x.seq + 1) % 65536))

/-- The count that the cell gives at start-up; none when it is invalid. -/
def cellCount (n : Nv) : Option Nat :=
  match newestSlot n.cellA n.cellB with
  | none => none
  | some true => n.cellA.map (·.count)
  | some false => n.cellB.map (·.count)

/-- The slot a write goes to, true for A: A when neither slot is valid, else the one that does not hold the
newest valid content. -/
def writeSlot (n : Nv) : Bool :=
  match newestSlot n.cellA n.cellB with
  | none => true
  | some newest => !newest

/-- The sequence number a write carries. -/
def writeSeq (n : Nv) : Nat :=
  match newestSlot n.cellA n.cellB with
  | none => 0
  | some true => ((n.cellA.map (·.seq)).getD 0 + 1) % 65536
  | some false => ((n.cellB.map (·.seq)).getD 0 + 1) % 65536

/-- Write a slot of the cell. -/
def Nv.setSlot (n : Nv) (toA : Bool) (c : Option CellSlot) : Nv :=
  if toA then { n with cellA := c } else { n with cellB := c }

/-- A write of the cell begins: the slot it goes to is invalid until it ends. -/
def beginCellWrite (count : Nat) (s : State) : State :=
  let toA := writeSlot s.nv
  { s with nv := s.nv.setSlot toA none
           dev := { s.dev with cellWrite := some ⟨toA, ⟨count, writeSeq s.nv⟩, none⟩ } }

/-- The Windlass block asks a write of the present count (R124); while one is in flight, the count waits as
the pending count. -/
def writeCell (s : State) : State :=
  match s.dev.cellWrite with
  | none => beginCellWrite s.wl.count s
  | some w => { s with dev := { s.dev with cellWrite := some { w with pendingCount := some s.wl.count } } }

/-- A write of the cell ends; the pending count is then written (R209). -/
def cellWriteDone (s : State) : State :=
  match s.dev.cellWrite with
  | none => s
  | some w =>
    let s1 := { s with nv := s.nv.setSlot w.toA (some w.slot), dev := { s.dev with cellWrite := none } }
    match w.pendingCount with
    | none => s1
    | some c => beginCellWrite c s1

/-! ### Ends of a run (R132 to R134) -/

/-- The windlass takes a new state; the beacon follows it (R16). -/
def wlTo (w : Windlass) (s : State) : State := beaconUpdate (s.setWl w)

/-- Entry into BRAKING (R133): the contactors go off, BRAKE_FREE stays as it is, WINDLASS is released unless
the Supply Budget block removes it, and the holder and the mode are gone. -/
def enterBraking (e : BrakingEnd) (release : Bool) (s : State) : State :=
  let s1 := wlTo { s.wl with
    state := .braking, holder := .none, mode := none, target := none, brakingEnd := some e, phaseMs := 0,
    jogOn := false, up := false, down := false, stall := none } s
  if release then freeRes .windlass s1 else s1

/-- A stop of a running windlass with its cause; in BRAKING or at rest nothing changes (R132, R133). -/
def stopWindlass (off : Offer) (cause : StopCause) (s : State) : State :=
  if s.wl.state.running then
    let s1 := enterBraking (if cause = .thermal then .lockout else .idle) true s
    off (.internal .windlassStopped 0 (some (codeIn stopCauses cause)))
      (notice .wlStopped 0 [codeIn stopCauses cause, s1.wl.count, s1.chainLength, s1.wl.errors] s1)
  else s

/-- The motor current as it stands: the value of the WINDLASS_CURRENT input, or invalid (R69). -/
def State.motorCurrent (s : State) : Option Nat := s.analogValue .windlassCurrent

/-- A fault of a running windlass; in BRAKING or at rest nothing changes (R134). Its record takes the last
valid motor current (R118). -/
def faultWindlass (off : Offer) (cause : WlCause) (detail : Nat) (s : State) : State :=
  if s.wl.state.running then
    let r : WlFaultRec := ⟨cause, s.wl.state, s.wl.count, s.wl.lastCurrent, detail⟩
    let s1 := enterBraking .fault (cause != .supply) (s.setWl { s.wl with faultRec := some r })
    off (.internal .windlassFault 0 (some (codeIn wlCauses cause)))
      (notice .wlFault 0 [codeIn wlCauses cause, codeIn wlStates r.state, r.count, detail] s1)
  else s

end Sys2Proof.Machine
end

