-- ==== Sys2Proof/Machine/Watch.lean ====
section
/-! DEFINITION. The Permit block's watch over running subjects (R87, R88). -/

namespace Sys2Proof.Machine

/-- Stop an axis that is still watched with fault PERMIT and its failing term. -/
def permitStopAxis (off : Offer) (a : AxisId) (term : Option Nat) (s : State) : State :=
  match term with
  | none => s
  | some n => if (s.axis a).state.watched then settleSeq off (axisFault off a .permit n s) else s

/-- Stop a running windlass with fault PERMIT and its failing term. -/
def permitStopWindlass (off : Offer) (term : Option Nat) (s : State) : State :=
  match term with
  | none => s
  | some n => faultWindlass off .permit n s

/-- The re-checks of the three subjects at a set of changes, each judged before any of them is stopped
(R87: they are independent of each other). Those that fail are stopped in the order platform, hatch, windlass (the
model's choice, log 86). -/
def recheck (off : Offer) (chs : List Change) (s : State) : State :=
  let p := recheckTerm chs .platform s
  let h := recheckTerm chs .hatch s
  let w := recheckTerm chs .windlass s
  permitStopWindlass off w (permitStopAxis off .hatch h (permitStopAxis off .platform p s))

/-- Some re-check at a set of changes would stop its subject. -/
def recheckStops (chs : List Change) (s : State) : Bool :=
  (recheckTerm chs .platform s).isSome || (recheckTerm chs .hatch s).isSome ||
    (recheckTerm chs .windlass s).isSome

/-- A change that reaches both a motion block and the Permit block (R88): which takes it first is free
wherever the Permit block would stop something (log 11). Where it would stop nothing before the motion block has
acted, the motion block acts first, and a subject that it starts is re-checked after its start (log 59). -/
def race (off : Offer) (chs : List Change) (motion : State → State) (s : State) : State :=
  if recheckStops chs s then
    let s1 := { s with dev := { s.dev with races := s.dev.races + 1 } }
    if Config.permitFirst s.dev.races then motion (recheck off chs s1) else recheck off chs (motion s1)
  else recheck off chs (motion s)

end Sys2Proof.Machine
end

