-- ==== Sys2Proof/Machine/Windlass.lean ====
section
/-! DEFINITION. The Windlass block (07_anchor_windlass.md): counting, starts and runs, the watches on chain
and motor, the hold list and the conflict latch. -/

namespace Sys2Proof.Machine

/-! ### Anchored (R123, R79) -/

/-- The windlass is anchored: at rest, with its length at or above ANCHORED_MIN (R123). -/
def State.isAnchored (s : State) : Bool :=
  s.wl.state.atRest && decide (s.cfg.windlass.anchoredMin ≤ s.chainLength)

/-- Judge the anchored flag: a change is taken by the vessel state record with its re-check, then given as a
notice, then offered to the Binding block (R79, R123). R123 orders the re-check and the Binding block; that the notice
stands between them is the model's choice (log 106). -/
def judgeAnchored (off : Offer) (s : State) : State :=
  let now := s.isAnchored
  if now = s.vessel.anchored then s
  else
    let s1 := recheck off [.anchored] { s with vessel := { s.vessel with anchored := now } }
    let s2 := notice (if now then .anchoredSet else .anchoredClear) 0 [s1.chainLength] s1
    off (.internal (if now then .anchoredSet else .anchoredClear) 0 none) s2

/-! ### Creep (R136) -/

/-- A creep burst ends: its notice, the count before the net pulses (the model's choice, log 89), and the count is
written to the cell (R124, R136). -/
def endCreep (s : State) : State :=
  match s.wl.creep with
  | none => s
  | some b => writeCell (notice .creepEnd 0 [s.wl.count, b.1] (s.setWl { s.wl with creep := none }))

/-- 2000 ms without a pulse end the burst. -/
def creepOver (s : State) : State :=
  match s.wl.creep with
  | none => s
  | some b => if reached b.2 2000 then endCreep s else s

/-! ### Runs and their checks (R125, R126) -/

/-- A run: what is asked of the windlass (R125). -/
inductive Run where
  | lower | hoist | lowerTo (t : Nat) | hoistHome | freeFall (t : Nat)
  deriving DecidableEq, Repr

/-- The direction of a run (R85, R125). -/
def Run.dir : Run → Dir
  | .lower | .lowerTo _ | .freeFall _ => .outward
  | .hoist | .hoistHome => .inward

/-- A run draws power. -/
def Run.powered : Run → Bool
  | .lower | .hoist | .lowerTo _ | .hoistHome => true
  | .freeFall _ => false

/-- The target as taken: a FREE_FALL target of 0 stands for MAX_ROD_COUNT, and no target lies above it
(R125). -/
def Run.settle (r : Run) (k : WindlassSec) : Run :=
  match r with
  | .lowerTo t => .lowerTo (min t k.maxRod)
  | .freeFall t => .freeFall (if t = 0 then k.maxRod else min t k.maxRod)
  | .lower => .lower
  | .hoist => .hoist
  | .hoistHome => .hoistHome

/-- The mode of a run (R118). -/
def Run.mode : Run → WlMode
  | .lower | .hoist | .freeFall _ => .hold
  | .lowerTo _ => .lowerTo
  | .hoistHome => .hoistHome

/-- The target count of a run. -/
def Run.target : Run → Option Nat
  | .lowerTo t | .freeFall t => some t
  | .lower | .hoist | .hoistHome => none

/-- The direction of a hold (R140). -/
def HoldKind.dir : HoldKind → Dir
  | .up => .inward
  | .down | .freeFall => .outward

/-- The hold that opposes a direction (R126 check 4): of several, the one entered first (the model's choice,
log 67). -/
def State.opposingHold (s : State) (d : Dir) : Option Hold := s.wl.holds.find? fun h => h.kind.dir != d

/-- The conflict latch is set, with its notice: the two directions and the source of the opposing hold; set
already, nothing changes (R142). The direction of the run or start goes before that of the hold (the model's
choice, log 68). -/
def setConflict (d : Dir) (h : Hold) (s : State) : State :=
  if s.wl.conflict then s
  else notice .wlConflict 0 [codeIn dirs d, codeIn dirs h.kind.dir, value3 h.source.triple]
    (s.setWl { s.wl with conflict := true })

/-- The run needs an input that is absent or invalid (R126 check 5). -/
def State.lacksInput (s : State) (r : Run) : Bool :=
  (r == .hoistHome && !s.roleHeld .anchorHome) || (r.powered && s.motorCurrent.isNone)

/-- The run is none (R126 check 6). -/
def State.runIsNone (s : State) (r : Run) : Bool :=
  match r with
  | .lowerTo t => t ≤ s.wl.count
  | .hoist | .hoistHome => s.roleActive .anchorHome
  | .lower | .freeFall _ => false

/-- Check 8 of R126: the WINDLASS reservation, or the supply state for a FREE_FALL. -/
def admitRun (r : Run) (s : State) : Except Status State :=
  if r.powered then reserveFor .windlass s.cfg.windlass.amount s
  else if s.budget.supply = .critical then .error .supplyLow else .ok s

/-! ### Jogging (R129, R130) -/

/-- A jog begins: with the count at 0 it adds 1 to the jog counter, and the tenth is not begun but faults
with HOME_MISSING (R130). -/
def beginJog (off : Offer) (s : State) : State :=
  let j := if s.wl.count = 0 then s.wl.jogs + 1 else s.wl.jogs
  if s.wl.count = 0 ∧ 10 ≤ j then
    faultWindlass off .homeMissing 0 (s.setWl { s.wl with up := false })
  else
    s.setWl { s.wl with state := .jogging, jogs := j, jogOn := true, phaseMs := 0, up := true,
                        down := false, brakeFree := true }

/-- JOG_ON_END: UP goes off, BRAKE_FREE follows 100 ms later (R130). -/
def jogOnEnd (s : State) : State :=
  if s.wl.state = .jogging ∧ s.wl.jogOn = true ∧ reached s.wl.phaseMs 800 then
    s.setWl { s.wl with jogOn := false, phaseMs := 0, up := false, stall := none }
  else s

/-- JOG_OFF_END: the next jog begins (R130). -/
def jogOffEnd (off : Offer) (s : State) : State :=
  if s.wl.state = .jogging ∧ s.wl.jogOn = false ∧ reached s.wl.phaseMs 1200 then beginJog off s else s

/-! ### Making a start (R127, R143) -/

/-- Step 3 of R127: the state and the outputs of the run (R119). -/
def enterRun (off : Offer) (r : Run) (s : State) : State :=
  match r with
  | .lower | .lowerTo _ =>
    wlTo { s.wl with state := .lowering, up := false, down := true, brakeFree := true } s
  | .freeFall _ => wlTo { s.wl with state := .freeFall, up := false, down := false, brakeFree := true } s
  | .hoist => wlTo { s.wl with state := .hoisting, up := true, down := false, brakeFree := true } s
  | .hoistHome =>
    let s1 := wlTo { s.wl with state := .hoisting, up := true, down := false, brakeFree := true } s
    if s.wl.count ≤ s.cfg.windlass.jogZone then beginJog off s1 else s1

/-- A start that has passed its checks is made (R127). -/
def beginRun (off : Offer) (r : Run) (h : WlHolder) (s : State) : State :=
  let s1 := s.setWl { s.wl with
    holder := h, mode := some r.mode, target := r.target, disagree := 0, jogs := 0, errors := 0,
    driftNoted := false, stall := none, lastOut := none, lastGap := none }
  let s2 := judgeAnchored off (enterRun off r (endCreep s1))
  off (.internal .windlassStart 0 none)
    (notice .wlStarted 0 [h.triple.1, codeIn wlModes r.mode, codeIn dirs r.dir, s2.wl.count] s2)

/-- The direction of the present run. -/
def WlState.dir : WlState → Dir
  | .lowering | .freeFall => .outward
  | .hoisting | .jogging | .idle | .braking | .lockout | .fault => .inward

/-- A start in a running state under the same holder kind (R143): the same direction replaces the mode and
the target, the opposite one is refused with BUSY. A HOIST_HOME that replaces a HOIST_HOME still HOISTING at or
below a raised JOG_ZONE enters JOGGING at once, as one that replaces a HOIST (log 51). -/
def replaceRun (off : Offer) (r : Run) (s : State) : StartRes × State :=
  if r.dir ≠ s.wl.state.dir then (.refused .busy 0, s)
  else
    let s1 := s.setWl { s.wl with mode := some r.mode, target := r.target }
    match r with
    | .lowerTo t => (.done, if t ≤ s.wl.count then stopWindlass off .target s1 else s1)
    | .lower | .freeFall _ => (.done, s1)
    | .hoist =>
      (.done, if s.wl.state = .jogging then
          s1.setWl { s1.wl with state := .hoisting, jogOn := false, phaseMs := 0, up := true,
                                brakeFree := true }
        else s1)
    | .hoistHome =>
      (.done, if s.wl.state = .hoisting ∧ s.wl.count ≤ s.cfg.windlass.jogZone then beginJog off s1
        else s1)

/-- The holder kind of a running windlass is that of the host, or BINDING_AUTO, that asks (R126, R143). -/
def sameKind (present asked : WlHolder) : Bool :=
  (asked == .host || asked == .bindingAuto) && present == asked

/-- A start of the windlass (R126). -/
def startWindlass (off : Offer) (run : Run) (h : WlHolder) (s : State) : StartRes × State :=
  let r := run.settle s.cfg.windlass
  match s.wl.state with
  | .fault => (.refused .faulted 0, s)
  | .lockout => (.refused .lockout 0, s)
  | .braking => (.refused .busy 0, s)
  | .lowering | .hoisting | .jogging | .freeFall =>
    if sameKind s.wl.holder h then replaceRun off r s else (.refused .busy 0, s)
  | .idle =>
    if s.wl.conflict then (.refused .conflict 0, s)
    else match s.opposingHold r.dir with
      | some o => (.refused .conflict 0, setConflict r.dir o s)
      | none =>
        if s.lacksInput r then (.refused .notReady 0, s)
        else if s.runIsNone r then (.done, s)
        else match windlassPermit r.dir s with
          | some x => (.refused x.1 x.2, s)
          | none =>
            match admitRun r s with
            | .error c => (.refused c 0, s)
            | .ok s1 => (.begun, beginRun off r h s1)

/-! ### Pulses (R121, R122, R128 to R131, R135, R136) -/

/-- The count and its status after a pulse, and whether the pulse was clamped (R121). -/
def countAfter (out home : Bool) (w : Windlass) : Windlass × Bool :=
  if home then ({ w with count := 0 }, false)
  else if out then
    if w.count < 9999 then ({ w with count := w.count + 1 }, false)
    else ({ w with count := 9999, status := .drifted }, true)
  else if w.count = 0 then ({ w with status := .drifted }, true)
  else ({ w with count := w.count - 1 }, false)

/-- The pulse as the creep burst takes it: the first one at rest starts a burst; one in BRAKING or in a run
belongs to none (R133, R136). -/
def creepAfter (out : Bool) (w : Windlass) : Windlass :=
  let d : Int := if out then 1 else -1
  if w.state.atRest then
    match w.creep with
    | none => { w with creep := some (d, 0), driftNoted := false }
    | some b => { w with creep := some (b.1 + d, 0) }
  else w

/-- A pulse is counted: the burst, the count, COUNT_DRIFTED in a run or a creep burst, which BRAKING is
neither (R122, R133), and the anchored flag (R121 to R123, R136). CREEP_START carries the count after the pulse
(log 50). The notices come in this order: CREEP_START, COUNT_DRIFTED, that of the flag (the model's choice,
log 101). -/
def countPulse (off : Offer) (out : Bool) (s : State) : State :=
  let burst := s.wl.state.atRest && s.wl.creep.isNone
  let c := countAfter out (s.roleActive .anchorHome) (creepAfter out { s.wl with quietMs := 0 })
  let s1 := s.setWl c.1
  let s2 := if burst then notice .creepStart 0 [s1.wl.count] s1 else s1
  let s3 := if c.2 = true ∧ s2.wl.driftNoted = false ∧ s2.wl.state ≠ .braking then
      notice .countDrifted 0 [s2.wl.count, if out then 0 else 1]
        (s2.setWl { s2.wl with driftNoted := true })
    else s2
  judgeAnchored off s3

/-- The disagreement counter takes a pulse; at 8 the windlass faults with CHAIN_REVERSED (R135). -/
def watchPulse (off : Offer) (out : Bool) (s : State) : State :=
  if s.wl.state.powered then
    if out = (s.wl.state == .lowering) then s.setWl { s.wl with disagree := 0 }
    else
      let s1 := s.setWl { s.wl with disagree := min 8 (s.wl.disagree + 1) }
      if 8 ≤ s1.wl.disagree then faultWindlass off .chainReversed 0 s1 else s1
  else s

/-- The interval that a pulse of a free fall closes, for R131. -/
def State.outGap (s : State) : Option Nat := s.wl.lastOut.map s.sinceUptime

/-- The overspeed watch after a pulse (R131): two intervals in a row, each shorter than
FREEFALL_MIN_INTERVAL, end the run. -/
def overspeedWatch (off : Offer) (out : Bool) (s : State) : State :=
  if out = false then s.setWl { s.wl with lastOut := none, lastGap := none }
  else
    let short : Bool := match s.outGap with
      | none => false
      | some g => g < s.cfg.limits.freefallMin
    let s1 := s.setWl { s.wl with
      lastOut := some s.dev.uptime, lastGap := if short then s.outGap else none }
    match s.wl.lastGap, s.outGap, short with
    | some g1, some g2, true => stopWindlass off .overspeed (notice .overspeed 0 [g1, g2] s1)
    | _, _, _ => s1

/-- The ends of a run at a pulse, and the change to JOGGING (R128, R129, R131). A pulse that meets several ends
takes the first of TARGET, ROD_END and OVERSPEED (log 52). -/
def runAtPulse (off : Offer) (out : Bool) (s : State) : State :=
  let atTarget : Bool := match s.wl.target with
    | some t => t ≤ s.wl.count
    | none => false
  match s.wl.state with
  | .lowering =>
    if s.wl.mode = some .lowerTo ∧ atTarget then stopWindlass off .target s
    else if s.cfg.windlass.maxRod ≤ s.wl.count then stopWindlass off .rodEnd s else s
  | .freeFall =>
    if atTarget then stopWindlass off .target s
    else if s.cfg.windlass.maxRod ≤ s.wl.count then stopWindlass off .rodEnd s
    else overspeedWatch off out s
  | .hoisting =>
    if s.wl.mode = some .hoistHome ∧ s.wl.count ≤ s.cfg.windlass.jogZone then beginJog off s else s
  | .jogging | .idle | .braking | .lockout | .fault => s

/-- A chain pulse handed on by the decoder (R121). The eighth disagreement faults before the pulse can end the run
otherwise or enter the jog zone (log 53). A pulse at rest whose ANCHORED event has a binding start a run belongs to
that run too: its disagreement counter and its ends judge the same pulse (the model's choice, log 98). -/
def chainPulse (off : Offer) (out : Bool) (s : State) : State :=
  runAtPulse off out (watchPulse off out (countPulse off out s))

/-- An error of the chain decoder, counted in the running states (R72, R118). -/
def chainError (s : State) : State :=
  if s.wl.state.running then s.setWl { s.wl with errors := min 65535 (s.wl.errors + 1) } else s

/-- ANCHOR_HOME becomes validated active (R121, R129, R130): HOME_SET comes before what becomes of the anchored flag
(the model's choice, log 101). -/
def anchorHome (off : Offer) (s : State) : State :=
  let s1 := notice .homeSet 0 [s.wl.count] (s.setWl { s.wl with count := 0, status := .verified })
  let s2 := judgeAnchored off s1
  if s2.wl.state = .hoisting ∨ s2.wl.state = .jogging then stopWindlass off .home s2 else s2

/-! ### The motor current (R137) -/

/-- The stall time after a current value, with the STALL_TIME that applies from it on (R120, R137). It starts at a
value taken while a contactor is on: one that already stood above STALL_CURRENT when the contactor came on starts
it at the next conversion (log 54). -/
def stallAfter (l : LimitsSec) (w : Windlass) (v : Nat) : Option (Nat × Nat) :=
  if (w.up || w.down) = true ∧ l.stallCurrent < v then some ((w.stall.map (·.1)).getD 0, l.stallTime)
  else none

/-- The reader of WINDLASS_CURRENT takes a conversion: the last valid value, the stall time and the sensor
fault. -/
def motorCurrentTaken (off : Offer) (s : State) : State :=
  match s.motorCurrent with
  | none => if s.wl.state.powered then faultWindlass off .currentSensor 0 s else s
  | some v =>
    s.setWl { s.wl with stall := stallAfter s.cfg.limits s.wl v, lastCurrent := some v }

/-- STALL: the current has stood above STALL_CURRENT for STALL_TIME. -/
def stallOver (off : Offer) (s : State) : State :=
  match s.wl.stall with
  | none => s
  | some t => if s.wl.state.powered ∧ reached t.1 t.2 then faultWindlass off .stall 0 s else s

/-! ### Timers and the thermal integrator (R133, R135, R138) -/

/-- 500 ms of BRAKING are over: the braking end, the count cell, the anchored flag (R133). -/
def brakingOver (off : Offer) (s : State) : State :=
  match s.wl.state, s.wl.brakingEnd with
  | .braking, some e =>
    if reached s.wl.phaseMs 500 then
      let st : WlState := match e with
        | .idle => .idle
        | .lockout => .lockout
        | .fault => .fault
      judgeAnchored off (writeCell (s.setWl { s.wl with
        state := st, brakingEnd := none, phaseMs := 0, brakeFree := false }))
    else s
  | _, _ => s

/-- BRAKE_FREE goes off 100 ms after the contactors, in BRAKING and in the OFF phase of a jog (R119). -/
def brakeFreeOff (s : State) : State :=
  if s.wl.brakeFree = true ∧ (s.wl.state = .braking ∨ (s.wl.state = .jogging ∧ s.wl.jogOn = false)) ∧
      reached s.wl.phaseMs 100 then
    s.setWl { s.wl with brakeFree := false }
  else s

/-- 2000 ms without a pulse set the disagreement counter to 0 (R135). -/
def disagreementQuiet (s : State) : State :=
  if s.wl.state.powered ∧ reached s.wl.quietMs 2000 then s.setWl { s.wl with disagree := 0 } else s

/-- T reaches T_MAX: THERMAL_LOCKOUT, and the stop whose braking end is LOCKOUT (R138). -/
def thermalLockout (off : Offer) (s : State) : State :=
  if s.wl.state.powered ∧ s.cfg.limits.tMax ≤ s.wl.heat then
    stopWindlass off .thermal (notice .thermalLockout 0 [s.wl.heat] s)
  else s

/-- T is at or below T_MAX / 2: LOCKOUT ends (R138). -/
def lockoutOver (off : Offer) (s : State) : State :=
  if s.wl.state = .lockout ∧ s.wl.heat ≤ s.cfg.limits.tMax / 2 then
    judgeAnchored off (notice .lockoutEnd 0 [s.wl.heat]
      (writeCell (s.setWl { s.wl with state := .idle })))
  else s

/-! ### Holds (R140 to R142) -/

/-- The conflict latch clears when the hold list is empty (R142). -/
def conflictCheck (s : State) : State :=
  if s.wl.conflict = true ∧ s.wl.holds = [] then
    notice .conflictCleared 0 [] (s.setWl { s.wl with conflict := false })
  else s

/-- A hold is entered in the list, one entry per source; a panel's is told to the Panel Bus block (R140). -/
def enterHold (h : Hold) (s : State) : State :=
  let s1 := s.setWl { s.wl with holds := (s.wl.holds.filter fun x => x.source != h.source) ++ [h] }
  match h.source with
  | .panel a k => beginHolding a k .windlass s1
  | .footDown | .footUp => s1

/-- A hold is removed; its removal is told to the Panel Bus block (R140). -/
def removeHold (src : HoldSource) (s : State) : State :=
  let s1 := s.setWl { s.wl with holds := s.wl.holds.filter fun x => x.source != src }
  match src with
  | .panel a k => endHolding a k .windlass s1
  | .footDown | .footUp => s1

/-- The run a hold asks for. -/
def HoldKind.run (target : Nat) : HoldKind → Run
  | .up => .hoist
  | .down => .lower
  | .freeFall => .freeFall target

/-- A hold that has been entered is handled by the windlass state (R141); STARTING starts nothing. An opposite hold
stops the run, with STOPPED, its event and the bindings on it, and then sets the latch, with CONFLICT (R142; this
order is the model's choice, log 114). -/
def holdArrives (off : Offer) (h : Hold) (target : Nat) (holder : WlHolder) (s : State) :
    StartRes × State :=
  if s.starting then (.done, s)
  else match s.wl.state with
    | .lowering | .hoisting | .jogging | .freeFall =>
      if h.kind.dir ≠ s.wl.state.dir then
        (.done, setConflict s.wl.state.dir h (stopWindlass off .conflict s))
      else (.ignored, s)
    | .braking => (.ignored, s)
    | .idle | .lockout | .fault => startWindlass off (h.kind.run target) holder s

/-- A WINDLASS_HOLD action that reaches the block (R140, R141): a fifth panel entry is refused with BUSY; an
ignored hold gives the PANEL notice HOLD_IGNORED with the key and the windlass, which no rule gives a code as a
value of this notice: 2, as among the permit subjects of R83 (log 49). -/
def panelHold (off : Offer) (address key : Nat) (kind : HoldKind) (target : Nat) (s : State) :
    StartRes × State :=
  let src := HoldSource.panel address key
  let isPanel (x : Hold) : Bool := match x.source with
    | .panel _ _ => true
    | .footDown | .footUp => false
  if 4 ≤ (s.wl.holds.filter fun x => isPanel x && x.source != src).length then (.refused .busy 0, s)
  else
    let r := holdArrives off ⟨src, kind⟩ target (.panel address key) (enterHold ⟨src, kind⟩ s)
    match r.1 with
    | .ignored => (.ignored, notice .holdIgnored address [key, 2] r.2)
    | .begun | .done | .refused _ _ => r

/-- The switch of a foot hold as a notice value: FOOT_DOWN 0, FOOT_UP 1, in the order of R140 (the model's choice,
log 76). -/
def switchCode (down : Bool) : Nat := if down then 0 else 1

/-- A foot switch becomes validated active (R140, R141). -/
def footPressed (off : Offer) (down : Bool) (s : State) : State :=
  let h : Hold := ⟨if down then .footDown else .footUp, if down then .down else .up⟩
  let r := holdArrives off h 0 .foot (enterHold h s)
  match r.1 with
  | .ignored => notice .wlHoldIgnored 0 [switchCode down] r.2
  | .refused c _ => notice .startRefused 0 [codeIn statuses c, switchCode down] r.2
  | .begun | .done => r.2

/-- A foot switch becomes validated inactive: its entry goes, and a run of its own stops (R132, R140). -/
def footReleased (off : Offer) (down : Bool) (s : State) : State :=
  let s1 := removeHold (if down then .footDown else .footUp) s
  let mine : Bool := s.wl.holder == .foot &&
    ((down && s.wl.state == .lowering) || (!down && s.wl.state == .hoisting))
  conflictCheck (if mine then stopWindlass off .release s1 else s1)

/-- A foot switch changes. -/
def footInput (off : Offer) (down on : Bool) (s : State) : State :=
  if on then footPressed off down s else footReleased off down s

/-- RELEASE, DEADMAN or LINK_DOWN for a key with an entry: the entry goes, and a run it holds stops (R132,
R140). -/
def windlassReport (off : Offer) (cause : StopCause) (address key : Nat) (s : State) : State :=
  let s1 := removeHold (.panel address key) s
  conflictCheck (if s.wl.holder = .panel address key then stopWindlass off cause s1 else s1)

/-- The device enters STANDALONE: a run held by HOST or BINDING_AUTO stops (R132). -/
def windlassStandalone (off : Offer) (s : State) : State :=
  if s.wl.holder = .host ∨ s.wl.holder = .bindingAuto then stopWindlass off .standalone s else s

/-! ### Host requests (R144) -/

/-- WINDLASS_SET_COUNT. -/
def setCount (off : Offer) (c : Nat) (s : State) : State × Ans :=
  if 9999 < c then (s, Ans.refused .outOfRange)
  else if c ≠ 0 ∧ s.roleActive .anchorHome then (s, Ans.refused .conflict)
  else if s.wl.state ≠ .idle then (s, Ans.refused .busy)
  else
    let s1 := writeCell (s.setWl { s.wl with count := c, status := .restored })
    (notice .countSet 0 [s.wl.count, c] (judgeAnchored off s1), Ans.ok)

/-- WINDLASS_CLEAR_FAULT. -/
def clearWindlassFault (s : State) : State × Ans :=
  if s.wl.state ≠ .fault then (s, Ans.refused .notFaulted)
  else
    (notice .wlFaultCleared 0 [s.wl.count]
      (writeCell (s.setWl { s.wl with state := .idle, faultRec := none })), Ans.ok)

/-! ### Start-up (R145) -/

/-- Step 4 of start-up: the count is restored from the cell, then judged against ANCHOR_HOME; the anchored
flag goes to the vessel state record without an event. -/
def restoreCount (s : State) : State :=
  let s1 := match cellCount s.nv with
    | some c => s.setWl { s.wl with count := c, status := .restored }
    | none => notice .countDrifted 0 [0, 255] (s.setWl { s.wl with count := 0, status := .drifted })
  let s2 := if s1.roleActive .anchorHome then
      notice .homeSet 0 [s1.wl.count] (s1.setWl { s1.wl with count := 0, status := .verified })
    else s1
  { s2 with vessel := { s2.vessel with anchored := s2.isAnchored } }

end Sys2Proof.Machine
end

