-- ==== Sys2Proof/Machine/Supply.lean ====
section
/-! DEFINITION. The moves of the supply state that a dwell leads to (R33, R35). -/

namespace Sys2Proof.Machine

/-- A dwell toward a supply state is over (R33). -/
def State.dwellOver (s : State) (new : SupplyState) : Bool :=
  match s.budget.dwell with
  | none => false
  | some d => d.1 == new && reached d.2 (dwellTime s.budget.supply new)

/-- SUPPLY_TO_BROWNOUT: from NORMAL at a low voltage, or from CRITICAL at a recovered one, with cause
VOLTAGE 0 (R33, R37). -/
def supplyToBrownout (s : State) : State :=
  if s.dwellOver .brownout then
    judgeStanding (evaluate (notice .stateBrownout s.sourceIdx
      [s.voltageValue, 0, codeIn supplyStates s.budget.supply] (s.setSupply .brownout)))
  else s

/-- STATE_NORMAL: from BROWNOUT (R33). -/
def supplyToNormal (s : State) : State :=
  if s.dwellOver .normal then
    judgeStanding (evaluate (notice .stateNormal s.sourceIdx [s.voltageValue] (s.setSupply .normal)))
  else s

/-- Step 2 of R35: the entries for STERN and WINDLASS are removed. -/
def removeMotorEntries (s : State) : State := (s.setRes .stern none).setRes .windlass none

/-- STATE_CRITICAL: the four steps of R35. The notice carries the amounts removed, 0 for a holder without an
entry (R37, log 38). Step 1 reaches the Stern Motion block first, and a binding on AXIS_FAULT acts before the
Windlass block is reached: a WINDLASS_STOP there ends the run as a stop with HOST_STOP, which releases WINDLASS
itself (the model's choice, log 99). -/
def supplyToCritical (off : Offer) (s : State) : State :=
  if s.dwellOver .critical then
    let s1 := s.setSupply .critical
    let s2 := faultWindlass off .supply 0 (sternCritical off s1)
    judgeStanding (evaluate (notice .stateCritical s2.sourceIdx
      [s2.voltageValue, (s2.budget.res.stern.getD 0 : Nat), (s2.budget.res.windlass.getD 0 : Nat)]
      (removeMotorEntries s2)))
  else s

end Sys2Proof.Machine
end

