-- ==== Sys2Proof/Machine/Inputs.lean ====
section
/-! DEFINITION. The Input block (04_inputs_and_measurements.md): the digital filters and the handing on of
their changes, the analog conversions, and the chain decoder. -/

namespace Sys2Proof.Machine

/-- A digital input's record. -/
def State.diCfg (s : State) (n : Fin 16) : DiCfg := s.cfg.general.di[n]
/-- A digital input's runtime state. -/
def State.diRt (s : State) (n : Fin 16) : DiRt := s.inp.di[n]
/-- An analog input's record. -/
def State.aiCfg (s : State) (n : Fin 4) : AiCfg := s.cfg.general.ai[n]
/-- An analog input's runtime state. -/
def State.aiRt (s : State) (n : Fin 4) : AiRt := s.inp.ai[n]
/-- A digital input's role as a notice value. -/
def DiCfg.roleCode (k : DiCfg) : Nat := codeIn diRoles k.role
/-- A sample of the pin is active (R61). -/
def DiCfg.activeAt (k : DiCfg) (pin : Bool) : Bool := pin == k.activeHigh

/-! ### Handing on a change (R65) -/

/-- The role's reader takes a validated change of its input; before step 4 of start-up the axes and
ANCHOR_HOME are not acted on (R65, R117, R145). -/
def readRole (off : Offer) (r : DiRole) (on : Bool) (s : State) : State :=
  match r with
  | .footUp => footInput off false on s
  | .footDown => footInput off true on s
  | .shorePresent => deriveSource 2 s
  | .swimZone | .commissionKey | .general | .unused => s
  | .platStowEnd => if s.starting then s else settleSeq off (stowInput off .platform on s)
  | .hatchClosedEnd => if s.starting then s else settleSeq off (stowInput off .hatch on s)
  | .platOutEnd => if s.starting then s else settleSeq off (outInput off .platform on s)
  | .hatchOpenEnd => if s.starting then s else settleSeq off (outInput off .hatch on s)
  | .platLatchFree => if s.starting then s else settleSeq off (latchInput off .platform on s)
  | .hatchLatchFree => if s.starting then s else settleSeq off (latchInput off .hatch on s)
  | .anchorHome => if s.starting ∨ on = false then s else anchorHome off s
  | .tenderCradle => if s.starting then s else settleSeq off (tenderInput off on s)

/-- What a change of an input changes for the permit terms: the input itself, and the source of the
continuous view where SHORE_PRESENT overrides another source (R78, R87). -/
def inputChanges (n : Fin 16) (s : State) : List Change :=
  if (s.diCfg n).role = .shorePresent ∧ s.cfg.general.shoreInputWins ∧ s.vessel.source ≠ .shore then
    [.input n, .source]
  else [.input n]

/-- The readers of a role and the Permit block's re-check take a change (R65, R88). No motion block reads
SHORE_PRESENT: the Permit block derives the active source, and then re-checks its terms (R78); a term on the input
itself waits for that re-check too (the model's choice, log 113). -/
def takeInput (off : Offer) (n : Fin 16) (on : Bool) (s : State) : State :=
  let chs := inputChanges n s
  let read := readRole off (s.diCfg n).role on
  if (s.diCfg n).role = .shorePresent then recheck off chs (read s) else race off chs read s

/-- Hand on a change of an input's validated state: the readers, the notice, the event (R65). -/
def handOn (off : Offer) (n : Fin 16) (on : Bool) (note : Note) (values : List Int) (s : State) : State :=
  off (.internal (if on then .inputActive else .inputInactive) n none)
    (notice note n values (takeInput off n on s))

/-! ### Level filter (R62, R63) -/

/-- What the pin was seen at, and for how long. -/
def seePin (n : Fin 16) (pin : Bool) (run : Nat) (s : State) : State :=
  s.setDi n { s.diRt n with pin := pin, run := run }

/-- A change of the filtered state is taken (R62): it is handed on, but for the end of a STUCK run, which
only clears the mark (R63). -/
def filteredTo (off : Offer) (n : Fin 16) (on : Bool) (s : State) : State :=
  let d := s.diRt n
  let k := s.diCfg n
  let s1 := s.setDi n { d with filtered := on, settled := true, stuck := false, since := 0 }
  if d.stuck then notice .stuckCleared n [k.roleCode] s1
  else handOn off n on (if on then .inActive else .inInactive) [k.roleCode] s1

/-- The samples of a PULSE input: an active one after the 5 ms of inactive samples that settled it or ended
the last pulse begins a pulse; inside a pulse an inactive run shorter than 5 ms is bridged, since the pulse goes
on (R64). A run of n samples, 1 ms apart, has its first n - 1 ms before its last, and `since` counts from that
first one. -/
def pulseSamples (n : Fin 16) (pin : Bool) (run : Nat) (s : State) : State :=
  let d := s.diRt n
  let s1 := seePin n pin run s
  if (s.diCfg n).activeAt pin = true ∧ d.settled = true ∧ d.filtered = false then
    s1.setDi n { s1.diRt n with filtered := true, since := run - 1 }
  else s1

/-- LEVEL_FILTER_CHANGE: the samples of an input in use are seen; in LEVEL mode the filtered state changes
when they have differed from it for T_STABLE (R62). -/
def levelFilterChange (off : Offer) (n : Fin 16) (pin : Bool) (run : Nat) (s : State) : State :=
  let k := s.diCfg n
  if k.role = .unused then s
  else if k.pulse then pulseSamples n pin run s
  else
    let s1 := seePin n pin run s
    if k.activeAt pin ≠ (s.diRt n).filtered ∧ reached run k.tStable then
      filteredTo off n (k.activeAt pin) s1
    else s1

/-- INPUT_SETTLED: the first run of inactive samples of T_STABLE, or of 5 ms in PULSE mode, sets the settled
mark (R62, R64). -/
def inputSettled (n : Fin 16) (run : Nat) (s : State) : State :=
  let k := s.diCfg n
  let d := s.diRt n
  if k.role = .unused ∨ d.settled = true ∨ d.filtered = true then s
  else
    let s1 := seePin n (!k.activeHigh) run s
    if reached run (if k.pulse then 5 else k.tStable) then s1.setDi n { s1.diRt n with settled := true }
    else s1

/-- STUCK: a LEVEL input has been active for its stuck limit (R63). -/
def inputStuck (off : Offer) (n : Fin 16) (s : State) : State :=
  let k := s.diCfg n
  let d := s.diRt n
  if k.role ≠ .unused ∧ k.pulse = false ∧ k.stuckLimit ≠ 0 ∧ d.filtered = true ∧ d.stuck = false ∧
      reached d.since (k.stuckLimit * 1000) then
    handOn off n false .inStuck [k.roleCode, d.since] (s.setDi n { d with stuck := true })
  else s

/-! ### Pulse filter (R64) -/

/-- The time from the first active sample to the last one: n samples 1 ms apart are n - 1 ms, and an inactive run
at the end, from the ms of its first sample on, is no part of it (R64). In an active run before the input has
settled it is the time since the reset (R64, log 93). -/
def DiRt.width (d : DiRt) (k : DiCfg) : Nat := if k.activeAt d.pin then d.since else d.since - d.run

/-- A PULSE input is in a pulse, or in an active run before it has settled (R64). R64 speaks of a run that is
present at reset; one that begins, or goes on after less than 5 ms inactive, between the reset and the settling is
taken like it: it is no pulse, and its time toward STUCK counts from the reset (the model's choice, log 93). -/
def DiRt.inPulse (d : DiRt) (k : DiCfg) : Bool := d.filtered || (!d.settled && k.activeAt d.pin)

/-- The input becomes STUCK in a pulse (R64). -/
def stickPulse (n : Fin 16) (width : Nat) (s : State) : State :=
  notice .inStuck n [(s.diCfg n).roleCode, width] (s.setDi n { s.diRt n with stuck := true, filtered := true })

/-- A PULSE input is in a pulse that has grown past PULSE_MAX and is not STUCK yet. -/
def State.pulseTooWide (s : State) (n : Fin 16) : Bool :=
  (s.diCfg n).role != .unused && (s.diCfg n).pulse && !(s.diRt n).stuck &&
    (s.diRt n).inPulse (s.diCfg n) && decide ((s.diCfg n).pulseMax < (s.diRt n).width (s.diCfg n))

/-- PULSE_STUCK: the width of a pulse, which the command names, has grown past PULSE_MAX. A command that names
another width than the pulse has is not this event (log 3). -/
def pulseStuck (n : Fin 16) (width : Nat) (s : State) : State :=
  if s.pulseTooWide n = true ∧ width = (s.diRt n).width (s.diCfg n) then stickPulse n width s else s

/-- A pulse of a width ends: the mark clears if it is STUCK; else a width within the limits gives the notice
and the event (R64, R65). -/
def endPulse (off : Offer) (n : Fin 16) (width : Nat) (s : State) : State :=
  let k := s.diCfg n
  let d := s.diRt n
  let s1 := s.setDi n { d with filtered := false, stuck := false, settled := true, since := 0 }
  if d.stuck then notice .stuckCleared n [k.roleCode] s1
  else if k.pulseMin ≤ width ∧ width ≤ k.pulseMax then
    off (.internal .inputPulse n none) (notice .inPulse n [width] s1)
  else s1

/-- INPUT_PULSE: inactive samples for `run` ms end a pulse when they are 5 ms; one that had grown past
PULSE_MAX was STUCK before it ended. Shorter runs are only seen, and bridged. -/
def inputPulse (off : Offer) (n : Fin 16) (run : Nat) (s : State) : State :=
  let k := s.diCfg n
  if k.role = .unused ∨ k.pulse = false ∨ (s.diRt n).filtered = false then s
  else
    let s1 := seePin n (!k.activeHigh) run s
    let w := (s1.diRt n).width k
    if reached run 5 = false then s1
    else endPulse off n w (if s1.pulseTooWide n then stickPulse n w s1 else s1)

/-! ### Analog inputs (R68, R69) -/

/-- A raw value lies inside the sensor margin. -/
def AiCfg.inside (k : AiCfg) (raw : Nat) : Bool := k.rawLo ≤ raw + k.margin && raw ≤ k.rawHi + k.margin

/-- The value of a raw count inside the margin (R68). -/
def AiCfg.valueOf (k : AiCfg) (raw : Nat) : Nat :=
  if raw < k.rawLo then k.eLo
  else if k.rawHi < raw then k.eHi
  else ((k.eLo : Int) + Int.tdiv (((raw : Int) - k.rawLo) * ((k.eHi : Int) - k.eLo))
    ((k.rawHi : Int) - k.rawLo)).toNat

/-- The reader of an analog role takes what its input now shows; before step 4 of start-up the axes are not
acted on (R65, R117). -/
def readAnalog (off : Offer) (r : AiRole) (s : State) : State :=
  match r with
  | .platPosition => if s.starting then s else positionTaken off .platform s
  | .hatchPosition => if s.starting then s else positionTaken off .hatch s
  | .busVoltage => supplyTaken s
  | .windlassCurrent => motorCurrentTaken off s
  | .unused => s

/-- A conversion of an input that is not in SENSOR_FAULT. -/
def convertValid (off : Offer) (n : Fin 4) (raw : Nat) (s : State) : State :=
  let k := s.aiCfg n
  if k.inside raw then
    readAnalog off k.role (s.setAi n
      { value := some (k.valueOf raw), converted := true, fault := false, recovery := none, lastRaw := raw })
  else
    notice .sensorFault (16 + n) [codeIn aiRoles k.role, raw]
      (readAnalog off k.role (s.setAi n
        { value := none, converted := true, fault := true, recovery := none, lastRaw := raw }))

/-- The recovery time has lasted 500 ms: the fault clears with this conversion's value (R69). -/
def clearSensor (off : Offer) (n : Fin 4) (raw : Nat) (s : State) : State :=
  let k := s.aiCfg n
  notice .sensorOk (16 + n) [codeIn aiRoles k.role, k.valueOf raw]
    (readAnalog off k.role (s.setAi n
      { value := some (k.valueOf raw), converted := true, fault := false, recovery := none,
        lastRaw := raw }))

/-- A conversion of an input in SENSOR_FAULT: the recovery time starts, goes on, is over or is cancelled. -/
def convertFaulty (off : Offer) (n : Fin 4) (raw : Nat) (s : State) : State :=
  let d := s.aiRt n
  if (s.aiCfg n).inside raw = false then s.setAi n { d with recovery := none, lastRaw := raw }
  else match d.recovery with
    | none => s.setAi n { d with recovery := some 0, lastRaw := raw }
    | some ms => if reached ms 500 then clearSensor off n raw s else s.setAi n { d with lastRaw := raw }

/-- ANALOG_CONVERSION (R68, R69). -/
def analogConversion (off : Offer) (n : Fin 4) (raw : Nat) (s : State) : State :=
  if (s.aiCfg n).role = .unused then s
  else if (s.aiRt n).fault then convertFaulty off n raw s else convertValid off n raw s

/-- SENSOR_OK: the conversion at which the recovery time has lasted 500 ms (R69). -/
def sensorOk (off : Offer) (n : Fin 4) (raw : Nat) (s : State) : State :=
  if (s.aiCfg n).role ≠ .unused ∧ (s.aiRt n).fault = true ∧ (s.aiCfg n).inside raw = true ∧
      reached ((s.aiRt n).recovery.getD 0) 500 then
    clearSensor off n raw s
  else s

/-! ### The chain decoder (R71, R72) -/

/-- The place of a sensor state (CHA, CHB) in the OUT order. -/
def chainPhase (p : Bool × Bool) : Nat :=
  match p with
  | (false, false) => 0
  | (true, false) => 1
  | (true, true) => 2
  | (false, true) => 3

/-- Write the chain decoder. -/
def State.setChain (s : State) (c : ChainDec) : State := { s with inp := { s.inp with chain := c } }

/-- A quarter step: at +4 an OUT pulse, at -4 an IN pulse, each with the accumulator back at 0 (R71). -/
def quarterStep (off : Offer) (new : Bool × Bool) (acc : Int) (s : State) : State :=
  if acc = 4 then chainPulse off true (s.setChain { s.inp.chain with sensor := new, acc := 0 })
  else if acc = -4 then chainPulse off false (s.setChain { s.inp.chain with sensor := new, acc := 0 })
  else s.setChain { s.inp.chain with sensor := new, acc := acc }

/-- CHAIN_SENSOR_STATE_CHANGE (R71, R72): before the decoder runs the inputs only show their state, from which
it starts (R73). -/
def chainChange (off : Offer) (a b : Bool) (s : State) : State :=
  if s.inp.chain.running = false then s.setChain { s.inp.chain with sensor := (a, b) }
  else
    match (chainPhase (a, b) + 4 - chainPhase s.inp.chain.sensor) % 4 with
    | 0 => s
    | 1 => quarterStep off (a, b) (s.inp.chain.acc + 1) s
    | 2 => chainError (s.setChain { s.inp.chain with sensor := (a, b), acc := 0 })
    | _ => quarterStep off (a, b) (s.inp.chain.acc - 1) s

/-! ### Staleness (R77) -/

/-- STALENESS_TIMER_EXPIRY: 3000 ms without SET_VESSEL_DATA; the continuous view does not change with
freshness, so nothing is re-checked. -/
def stalenessExpires (s : State) : State :=
  if s.vessel.fresh = some 0 then becomeStale 0 s else s

end Sys2Proof.Machine
end

