-- ==== Sys2Proof/Machine/Scenes.lean ====
section
/-! DEFINITION. The Scene engine (03_scenes_and_players.md): the scene store, the assembly, the four players
and what they do at each fade end, dwell end, stop and loss. -/

namespace Sys2Proof.Machine

/-! ### The scene store (R39, R40) -/

/-- The record of a slot; none for an empty slot or a number above 63. -/
def State.sceneAt (s : State) (n : Nat) : Option SceneRec :=
  if h : n < 64 then s.cfg.scenes[n] else none

/-- Write a slot; a change of the working copy's content sets the SCENES section's changed mark (R203). -/
def State.setScene (s : State) (n : Nat) (r : Option SceneRec) : State :=
  if h : n < 64 then
    { s with cfg := { s.cfg with scenes := s.cfg.scenes.set n r } }.markIf (s.cfg.scenes[n] != r) 2
  else s

/-- The cells a scene uses: N * M (R40). -/
def SceneRec.cells (r : SceneRec) : Nat := r.steps * r.chans.length
/-- The cells of a slot: none for an empty slot. -/
def cellsOf : Option SceneRec → Nat
  | none => 0
  | some r => r.cells
/-- The used count of the pool (R40). -/
def State.usedCells (s : State) : Nat := (s.cfg.scenes.toList.map cellsOf).sum

/-- A player runs a slot while it is not IDLE and its scene is that slot (R46). -/
def State.slotRuns (s : State) (n : Nat) : Bool :=
  (List.finRange 4).any fun p => (s.player p).state != .idle && (s.player p).scene == some n

/-- Some player is not IDLE. -/
def State.anyRuns (s : State) : Bool := (List.finRange 4).any fun p => (s.player p).state != .idle

/-! ### Writing a scene (R41 to R43) -/

/-- A printable character: the spec names no code; the model takes 0x20 to 0x7E (log 39). -/
def printable (b : Byte) : Bool := 0x20 ≤ b.toNat && b.toNat ≤ 0x7E

/-- The rows of M levels that a list of levels holds. -/
def rowsOf (m : Nat) : Nat → List Nat → List (List Nat)
  | 0, _ => []
  | n + 1, ls => ls.take m :: rowsOf m n (ls.drop m)

/-- The whole rows a part carries. -/
def partRows (p : ScenePart) : Nat := p.levels.length / p.m

/-- Check 1 of R41: everything in range. -/
def partInRange (p : ScenePart) : Bool :=
  p.part == 0 && p.slot < 64 && p.kind < 2 &&
  (1 ≤ p.m && p.m ≤ 24) && p.chans.length == p.m &&
  (if p.kind = 0 then p.n == 1 else 1 ≤ p.n && p.n ≤ 32) &&
  p.fade ≤ 60000 &&
  (p.kind == 0 || (100 ≤ p.dwell && p.dwell ≤ 600000 && p.repeats ≤ 255 && p.endCode < 3)) &&
  p.nameLen ≤ 16 && p.name.all printable &&
  p.chans.all (· < 24) && decide p.chans.Nodup &&
  p.levels.all (· ≤ 1000) && partRows p ≤ p.n

/-- The record that a first part opens, with the rows it carries. A STATIC record has no dwell, repeat
count or end behaviour (R39, R216). -/
def partRec (p : ScenePart) : SceneRec :=
  { kind := if p.kind = 0 then .static else .sequence
    chans := p.chans
    steps := p.n
    rows := rowsOf p.m (partRows p) p.levels
    fade := p.fade
    dwell := if p.kind = 0 then 0 else p.dwell
    repeats := if p.kind = 0 then 0 else p.repeats
    endB := if p.kind = 0 then .holdLast else endBehaviours.getD p.endCode .holdLast
    name := p.name }

/-- A channel number has type BEACON in the channel table. -/
def State.isBeacon (s : State) (n : Nat) : Bool :=
  if h : n < 24 then (s.chCfg ⟨n, h⟩).type == .beacon else false

/-- Checks 2, 3 and 4 of R41 on a record for a slot. -/
def installCheck (slot : Nat) (r : SceneRec) (s : State) : Option Status :=
  if r.chans.any s.isBeacon then some .conflict
  else if s.slotRuns slot then some .inUse
  else if 768 + cellsOf (s.sceneAt slot) < s.usedCells + r.cells then some .noSpace
  else none

/-- Write the open assembly. -/
def State.setAssembly (s : State) (a : Option Assembly) : State :=
  { s with scene := { s.scene with assembly := a } }

/-- An assembly that holds all its rows is installed, after the checks of R41 are made again (R42). -/
def installScene (a : Assembly) (s : State) : State × Status :=
  match installCheck a.slot a.rcd s with
  | some c => (s.setAssembly none, c)
  | none => ((s.setScene a.slot (some a.rcd)).setAssembly none, .ok)

/-- Keep an assembly, or install it if it is whole. -/
def keepAssembly (a : Assembly) (s : State) : State × Status :=
  if a.rcd.rows.length = a.rcd.steps then installScene a s else (s.setAssembly (some a), .ok)

/-- The rows the open assembly holds, 0 without one. -/
def State.rowsReceived (s : State) : Nat :=
  match s.scene.assembly with
  | none => 0
  | some a => a.rcd.rows.length

/-- The reply to a SCENE_WRITE part: the count of rows received as its detail, and the used count (R40,
R42, R191). -/
def partReply (c : Status) (rows : Nat) (s : State) : Ans := ⟨c, rows, le16 s.usedCells⟩

/-- A refused part leaves the rows received as they were; its detail is the open assembly's count, whatever
slot the part names (log 40). -/
def partRefused (c : Status) (s : State) : Ans := partReply c s.rowsReceived s

/-- SCENE_WRITE, first part (R41). -/
def sceneFirstPart (p : ScenePart) (s : State) : State × Ans :=
  if partInRange p = false then (s, partRefused .outOfRange s)
  else match installCheck p.slot (partRec p) s with
    | some c => (s, partRefused c s)
    | none =>
      if s.committing then (s, partRefused .busy s)
      else
        let r := keepAssembly { slot := p.slot, rcd := partRec p, lapse := 5000 } s
        (r.1, partReply r.2 (partRows p) r.1)

/-- SCENE_WRITE, continuation part (R42): `len` is its LENGTH. One that brings the last row and is refused at the
install answers the full count, though its assembly is discarded (the model's choice, log 40). -/
def sceneMoreRows (len slot first : Nat) (levels : List Nat) (s : State) : State × Ans :=
  match s.scene.assembly with
  | none => (s, partRefused .notFound s)
  | some a =>
    let m := a.rcd.chans.length
    let have' := a.rcd.rows.length
    if slot ≠ a.slot then (s, partRefused .notFound s)
    else if (len - 3) % (2 * m) ≠ 0 ∨ len < 3 + 2 * m then (s, partRefused .badLength s)
    else if s.committing then (s, partRefused .busy s)
    else
      let n := (len - 3) / (2 * m)
      if first ≠ have' ∨ a.rcd.steps < have' + n ∨ levels.all (· ≤ 1000) = false then
        (s, partRefused .outOfRange s)
      else
        let a' := { a with rcd := { a.rcd with rows := a.rcd.rows ++ rowsOf m n levels }, lapse := 5000 }
        let r := keepAssembly a' s
        (r.1, partReply r.2 (have' + n) r.1)

/-- The lapse time of the assembly runs out (R43). -/
def assemblyLapses (s : State) : State :=
  match s.scene.assembly with
  | none => s
  | some a =>
    if a.lapse = 0 then notice .writeLapsed a.slot [a.rcd.rows.length] (s.setAssembly none) else s

/-- SCENE_DELETE (R45). Of a slot that a player runs while a commit is in flight it answers IN_USE (the model's
choice, log 103). -/
def sceneDelete (slot : Nat) (s : State) : State × Ans :=
  if 64 ≤ slot then (s, Ans.refused .outOfRange)
  else if s.slotRuns slot then (s, Ans.refused .inUse)
  else if s.committing then (s, Ans.refused .busy)
  else (s.setScene slot none, Ans.ok)

/-- The bytes of a scene record from a row on: the first-part layout with byte 0 the first row index, and
as many whole rows as fit in 240 with the status and the detail (R44, R216). -/
def SceneRec.bytesFrom (r : SceneRec) (slot first : Nat) : List Byte :=
  let m := r.chans.length
  let head := [byteOf first, byteOf slot, byteOf (codeIn sceneKinds r.kind), byteOf m, byteOf r.steps] ++
    le16 r.fade ++ le32 r.dwell ++
    [byteOf r.repeats, byteOf (codeIn endBehaviours r.endB), byteOf r.name.length] ++ r.name ++
    r.chans.map byteOf
  let fit := (238 - head.length) / (2 * m)
  head ++ (((r.rows.drop first).take fit).map fun row => (row.map le16).flatten).flatten

/-- SCENE_READ (R44). -/
def sceneReadAns (slot first : Nat) (s : State) : Ans :=
  if 64 ≤ slot then Ans.refused .outOfRange
  else match s.sceneAt slot with
    | none => Ans.refused .notFound
    | some r => if r.steps ≤ first then Ans.refused .outOfRange else ⟨.ok, 0, r.bytesFrom slot first⟩

/-! ### Moves to IDLE (R56) -/

/-- Give up a channel: its fade ends where it stands and its owner becomes NONE (R7). -/
def giveUp (s : State) (n : Nat) : State :=
  if h : n < 24 then s.modChan ⟨n, h⟩ fun c => { c with owner := .none, fade := none } else s

/-- Steps 1 to 3 of a move to IDLE (R56): the channels are given up, the outcome is taken, PLAYER_DONE is
given, and steps 4 and 5 wait in `idleWork`. -/
def toIdle (p : Fin 4) (o : PlayerOutcome) (s : State) : State :=
  let x := s.player p
  let s1 := x.active.foldl giveUp s
  let s2 := s1.setPlayer p
    { x with state := .idle, scene := none, endFade := false, active := [], waiting := [],
             dwell := none, outcome := o }
  let s3 := notice .playerDone p
    [x.scene.getD 255, codeIn playerOutcomes o, x.repeats, value2 x.source.pair] s2
  { s3 with scene := { s3.scene with idleWork := s3.scene.idleWork ++ [(p, o)] } }

/-! ### Fade completion (R49, R50) -/

/-- What a player does at fade completion (R50). -/
def complete (p : Fin 4) (s : State) : State :=
  let x := s.player p
  match x.state with
  | .stopping => toIdle p .stopped s
  | .fading =>
    if x.endFade then toIdle p .completed s
    else match x.scene.bind s.sceneAt with
      | some r =>
        if r.kind = .static then toIdle p .completed s
        else s.setPlayer p { x with state := .dwell, dwell := some r.dwell }
      | none => toIdle p .completed s
  | .idle | .dwell => s

/-- Fade completion is reached: the waiting set is empty, the active entry set is not, in FADING or
STOPPING (R49). -/
def Player.complete? (x : Player) : Bool :=
  x.waiting.isEmpty && !x.active.isEmpty && (x.state == .fading || x.state == .stopping)

/-- Judge a player's fade completion (R49). -/
def judgePlayer (p : Fin 4) (s : State) : State := if (s.player p).complete? then complete p s else s

/-- A fade end report reaches a player: one for a channel not in its waiting set is disregarded (R49). -/
def fadeEnded (p : Fin 4) (n : Nat) (s : State) : State :=
  let x := s.player p
  if x.waiting.contains n then judgePlayer p (s.setPlayer p { x with waiting := x.waiting.erase n })
  else s

/-- A player is told that it has lost a channel (R55). -/
def loseChannel (p : Fin 4) (n : Nat) (s : State) : State :=
  let x := s.player p
  if x.active.contains n then
    let x' := { x with active := x.active.erase n, waiting := x.waiting.erase n }
    let s1 := s.setPlayer p x'
    if x'.active.isEmpty then (if x.state = .idle then s1 else toIdle p .superseded s1)
    else if x.waiting.contains n then judgePlayer p s1 else s1
  else s

/-- A party takes a channel, and the player that loses it is told at once (R6), with its PLAYER_DONE where it was its
last, before the party sets the channel (the model's choice, log 116). -/
def takeFrom (i : Fin 24) (o : Owner) (s : State) : State :=
  let r := takeChannel i o s
  match r.2 with
  | none => r.1
  | some q => loseChannel q i r.1

/-! ### Starts, rows and triggers (R47, R48, R51, R52) -/

/-- A player sets one channel of a row: the channel joins the waiting set unless its fade ends at once. -/
def setEntryFade (p : Fin 4) (fade : Nat) (s : State) (e : Nat × Nat) : State :=
  if h : e.1 < 24 then
    let r := startFade ⟨e.1, h⟩ e.2 fade s
    if r.2 then r.1 else r.1.modPlayer p fun x => { x with waiting := x.waiting ++ [e.1] }
  else s

/-- A starting player takes one channel of its scene and sets it; a channel of the beacon is left out
(R48 step 2). -/
def startEntry (p : Fin 4) (fade : Nat) (s : State) (e : Nat × Nat) : State :=
  if h : e.1 < 24 then
    if s.chan[e.1].owner = .beacon then s
    else
      let s1 := takeFrom ⟨e.1, h⟩ (.player p) s
      setEntryFade p fade (s1.modPlayer p fun x => { x with active := x.active ++ [e.1] }) e
  else s

/-- A start of a slot on an IDLE player (R48). A start of an empty slot leaves the repeats done as the last run
left them, and PLAYER_DONE carries them (the model's choice, log 65). -/
def startOn (p : Fin 4) (slot : Nat) (src : TrigSource) (s : State) : State :=
  match s.sceneAt slot with
  | none => toIdle p .empty (s.modPlayer p fun x => { x with source := src })
  | some r =>
    let s1 := s.modPlayer p fun x =>
      { x with scene := some slot, source := src, step := 0, repeats := 0, endFade := false }
    let s2 := (r.chans.zip (r.rows.getD 0 [])).foldl (startEntry p r.fade) s1
    if (s2.player p).active.isEmpty then toIdle p .superseded s2
    else
      let s3 := s2.modPlayer p fun x => { x with state := .fading }
      judgePlayer p (notice .playerStarted p
        [slot, value2 src.pair, (s3.player p).active.length] s3)

/-- The level of a channel in a row of its scene. -/
def SceneRec.levelOf (r : SceneRec) (row n : Nat) : Nat := (r.rows.getD row []).getD (r.chans.idxOf n) 0

/-- A player fades its active entry set: each channel to its level, then completion is judged (R49, R51,
R52). The channels are set in list order at every row and end fade, as R48 says of the start (log 42). -/
def fadeRow (p : Fin 4) (fade : Nat) (level : Nat → Nat) (s : State) : State :=
  let x := s.player p
  let s1 := s.setPlayer p { x with state := .fading, waiting := [], dwell := none }
  judgePlayer p ((x.active.map fun n => (n, level n)).foldl (setEntryFade p fade) s1)

/-- The end behaviour of a SEQUENCE (R52). -/
def applyEnd (p : Fin 4) (r : SceneRec) (s : State) : State :=
  match r.endB with
  | .holdLast => toIdle p .completed s
  | .toFirst => fadeRow p r.fade (r.levelOf 0) (s.modPlayer p fun x => { x with step := 0, endFade := true })
  | .allOff => fadeRow p r.fade (fun _ => 0) (s.modPlayer p fun x => { x with endFade := true })

/-- The dwell of a player ends (R51). -/
def leaveDwell (p : Fin 4) (r : SceneRec) (s : State) : State :=
  let x := s.player p
  let passes := min 65535 (x.repeats + 1)
  if x.step + 1 < r.steps then
    fadeRow p r.fade (r.levelOf (x.step + 1)) (s.setPlayer p { x with step := x.step + 1 })
  else if r.repeats = 0 ∨ x.repeats + 1 < r.repeats then
    fadeRow p r.fade (r.levelOf 0) (s.setPlayer p { x with step := 0, repeats := passes })
  else applyEnd p r (s.setPlayer p { x with repeats := passes, dwell := none })

/-- The dwell timer of a player runs out (R51). -/
def dwellEnds (p : Fin 4) (s : State) : State :=
  if (s.player p).state = .dwell ∧ (s.player p).dwell = some 0 then
    match (s.player p).scene.bind s.sceneAt with
    | some r => leaveDwell p r s
    | none => s
  else s

/-- STOP with ABORT (R54), with the trigger that replaces the pending one: none, or that of a RESTART. -/
def abortWith (t : Option (Nat × TrigSource)) (p : Fin 4) (s : State) : State :=
  if (s.player p).state = .idle then s
  else toIdle p .aborted (s.modPlayer p fun x => { x with pendingTrig := t })

/-- STOP with ABORT (R54). -/
def stopAbort (p : Fin 4) (s : State) : State := abortWith none p s

/-- STOP with FINISH (R53). -/
def stopFinish (p : Fin 4) (s : State) : State :=
  match (s.player p).state with
  | .idle => s
  | .fading => s.modPlayer p fun x => { x with pendingTrig := none, state := .stopping }
  | .stopping => s.modPlayer p fun x => { x with pendingTrig := none }
  | .dwell => toIdle p .stopped (s.modPlayer p fun x => { x with pendingTrig := none, dwell := none })

/-- A trigger reaches a player (R47). -/
def trigger (p : Fin 4) (slot : Nat) (busy : BusyMode) (src : TrigSource) (s : State) : State :=
  if (s.player p).state = .idle then startOn p slot src s
  else match busy with
    | .restart => abortWith (some (slot, src)) p s
    | .queue => s.modPlayer p fun x => { x with pendingTrig := some (slot, src) }
    | .ignore => s

/-! ### Steps 4 and 5 of R56 -/

/-- PLAYER_DONE(n, outcome) (R172). -/
def doneEvent (m : Fin 4 × PlayerOutcome) : Event :=
  .internal .playerDone m.1 (some (codeIn playerOutcomes m.2))

/-- Take the moves that wait out of `idleWork`. -/
def State.clearIdleWork (s : State) : State := { s with scene := { s.scene with idleWork := [] } }

/-- What step 4 of some moves to IDLE comes to: the further moves made meanwhile, in the order in which they were
made; the moves given and made, in the order in which each is finished; and the state. -/
structure IdleTails where
  made : List (Fin 4 × PlayerOutcome)
  finished : List (Fin 4 × PlayerOutcome)
  state : State
  deriving DecidableEq, Repr

/-- Step 4 of each move in turn: a pending trigger is started, and the moves that its start makes are carried out,
before the move is finished (R56). The first argument bounds the moves made: each player has one pending trigger at
most. -/
def idleTails : Nat → List (Fin 4 × PlayerOutcome) → State → IdleTails
  | 0, ms, s => ⟨[], ms, s⟩
  | _, [], s => ⟨[], [], s⟩
  | n + 1, m :: rest, s =>
    match (s.player m.1).pendingTrig with
    | none =>
      let r := idleTails n rest s
      ⟨r.made, m :: r.finished, r.state⟩
    | some t =>
      let s1 := startOn m.1 t.1 t.2 (s.modPlayer m.1 fun x => { x with pendingTrig := none })
      let r1 := idleTails n s1.scene.idleWork s1.clearIdleWork
      let r2 := idleTails n rest r1.state
      ⟨s1.scene.idleWork ++ r1.made ++ r2.made, r1.finished ++ m :: r2.finished, r2.state⟩

/-- The order in which the events of step 5 are handed on: that in which the moves are finished, or that in which
they were made, by which every move that waited comes before those its step 4 has led to (R56, log 8). Where step 4
has led to none, the two are the same. -/
def doneOrder (innerFirst : Bool) (waiting : List (Fin 4 × PlayerOutcome)) (r : IdleTails) :
    List (Fin 4 × PlayerOutcome) :=
  match r.made with
  | [] => waiting
  | m :: ms => if innerFirst then r.finished else waiting ++ m :: ms

/-- Carry out steps 4 and 5 of every move to IDLE that waits, every step 4 before the events of step 5 (R56). Those
of a player overtaken by a start come after the whole of that start's R48 (log 9). -/
def settlePlayers (off : Offer) (s : State) : State :=
  let r := idleTails 40 s.scene.idleWork s.clearIdleWork
  (doneOrder Config.innerDoneFirst s.scene.idleWork r).foldl (fun acc m => off (doneEvent m) acc) r.state

/-! ### Channel sets that reach players -/

/-- A party that is no player sets a channel: the take of R6, then the fade of R4. -/
def setByParty (i : Fin 24) (o : Owner) (l f : Nat) (s : State) : State :=
  (startFade i l f (takeFrom i o s)).1

/-- A step of a running fade, due every 20 ms; at its end the owner is told (R5). -/
def fadeStep (i : Fin 24) (s : State) : State :=
  match s.chan[i].fade with
  | none => s
  | some f =>
    if reached f.since 20 then
      let r := stepFade i f s
      match s.chan[i].owner.asPlayer, r.2 with
      | some p, true => fadeEnded p i r.1
      | _, _ => r.1
    else s

end Sys2Proof.Machine
end

