-- ==== Sys2Proof/Machine/Bindings.lean ====
section
/-! DEFINITION. The Binding block (09_bindings_and_indicators.md): matching, the event list, the actions, the
binding table and the indicator table. -/

namespace Sys2Proof.Machine

/-! ### Matching (R171, R172) -/

/-- The key number value of a key event: 16 * (address - 1) + key (R171). -/
def keyNumber (address key : Nat) : Nat := 16 * (address - 1) + key

/-- Two numbers agree in every bit that is set in a mask. -/
def agree (mask a b : Nat) : Bool := (a ^^^ b) &&& mask == 0

/-- A binding matches an event: its source, its kind or code, and its masks and filter (R171, R172). -/
def Binding.matchesEvent (b : Binding) (e : Event) : Bool :=
  b.enabled && match e with
  | .key a k kind => !b.event && b.kind == codeIn keyKinds kind && agree b.match2 (keyNumber a k) b.match1
  | .internal code sub v =>
    b.event && b.kind == codeIn evCodes code && agree (b.match1 / 256) sub (b.match1 % 256) &&
      (b.match2 % 256 == 255 || v == some (b.match2 % 256))

/-- The lowest-numbered enabled binding that matches (R173). -/
def State.matching (s : State) (e : Event) : Option (Fin 64) :=
  (List.finRange 64).find? fun i => s.cfg.bindings[i].matchesEvent e

/-- An event as two notice values: 256 * source plus the key kind or event code; the key number value or the
subject index (R213). -/
def eventValues : Event → List Int
  | .key a k kind => [(codeIn keyKinds kind : Int), keyNumber a k]
  | .internal code sub _ => [256 + (codeIn evCodes code : Int), sub]

/-! ### The event lists (R173, R180) -/

/-- The place of an event that joins the event list: one deeper than the event acted on, with the binding that
acts; between two actions depth 0 (R173). -/
def queuedAs (acting : Option (Nat × Nat)) (e : Event) : Queued :=
  match acting with
  | none => ⟨e, 0, 0⟩
  | some a => ⟨e, a.1 + 1, a.2⟩

/-- An event offered while an action is being carried out joins the event list at its tail; one that finds the
list full is dropped and counted (R173). So does an event that a sequence raises between two events of the
list (log 56). -/
def enqueue : Offer := fun e s =>
  if s.bind.events.length < 16 then
    { s with bind := { s.bind with events := s.bind.events ++ [queuedAs s.bind.acting e] } }
  else { s with bind := { s.bind with dropped := min 65535 (s.bind.dropped + 1) } }

/-- An event offered in STARTING joins the start-up list (R173). -/
def enqueueStartUp (e : Event) (s : State) : State :=
  if s.bind.startUp.length < 32 then
    { s with bind := { s.bind with startUp := s.bind.startUp ++ [e] } }
  else { s with bind := { s.bind with droppedStartUp := min 65535 (s.bind.droppedStartUp + 1) } }

/-- EVENTS_DROPPED for the event list, given when it is found empty after drops (R180). -/
def reportDropped (s : State) : State :=
  if s.bind.events = [] ∧ s.bind.dropped ≠ 0 then
    notice .eventsDropped 0 [s.bind.dropped] { s with bind := { s.bind with dropped := 0 } }
  else s

/-- The same for the start-up list. -/
def reportDroppedStartUp (s : State) : State :=
  if s.bind.startUp = [] ∧ s.bind.droppedStartUp ≠ 0 then
    notice .eventsDropped 1 [s.bind.droppedStartUp] { s with bind := { s.bind with droppedStartUp := 0 } }
  else s

/-! ### Actions (R175 to R179) -/

/-- The stop of SCENE_STOP and PLAYER_STOP: FINISH 0, ABORT 1. -/
def stopPlayer (p : Fin 4) (kind : Nat) (s : State) : State :=
  if kind = 0 then stopFinish p s else stopAbort p s

/-- SCENE_START: BUSY with IGNORE on a busy player, taken otherwise (R175). -/
def actSceneStart (i : Fin 64) (b : Binding) (s : State) : StartRes × State :=
  if h : b.p1 < 4 then
    let p : Fin 4 := ⟨b.p1, h⟩
    if (s.player p).state ≠ .idle ∧ b.busy = .ignore then (.refused .busy 0, s)
    else (.done, settlePlayers enqueue
      (trigger p b.p2.toNat b.busy (if b.event then .eventBinding i else .keyBinding i) s))
  else (.refused .outOfRange 0, s)

/-- SCENE_STOP (R175). -/
def actSceneStop (b : Binding) (s : State) : StartRes × State :=
  if h : b.p1 < 4 then (.done, settlePlayers enqueue (stopPlayer ⟨b.p1, h⟩ b.p2.toNat s))
  else (.refused .outOfRange 0, s)

/-- A channel action with the target found from the present level; IN_USE on the beacon (R176). -/
def actChannel (b : Binding) (target : Nat → Nat) (s : State) : StartRes × State :=
  if h : b.p1 < 24 then
    let i : Fin 24 := ⟨b.p1, h⟩
    if s.chan[i].owner = .beacon then (.refused .inUse 0, s)
    else (.done, settlePlayers enqueue (setByParty i .binding (target s.chan[i].level) b.p3 s))
  else (.refused .outOfRange 0, s)

/-- CHANNEL_STEP's target: the level plus the step, held within 0..1000 (R176). -/
def stepTarget (step : Int) (level : Nat) : Nat := (max 0 (min 1000 ((level : Int) + step))).toNat

/-- The axis that a binding names. -/
def axisOf (n : Nat) : AxisId := if n = 0 then .platform else .hatch

/-- The sequence kind that a binding or a request names. -/
def seqKindOf (n : Nat) : SeqKind := if n = 0 then .garageOpen else .garageClose

/-- The direction of a WINDLASS_HOLD. -/
def holdKindOf (n : Nat) : HoldKind := holdKinds.getD n .up

/-- A hold action: the hold check, then the start at the owning block; made by KEY bindings alone (R177). -/
def actHold (e : Event) (start : Nat → Nat → State → StartRes × State) (s : State) : StartRes × State :=
  match e with
  | .internal _ _ _ => (.refused .outOfRange 0, s)
  | .key a k _ =>
    match panelOf a with
    | none => (.refused .outOfRange 0, s)
    | some p =>
      match holdCheck p s with
      | some c => (.refused c 0, s)
      | none => start a k s

/-- An automatic action: refused with NOT_PERMITTED and detail 255 while AUTO_FROM_PANELS is clear (R178). -/
def actAuto (start : State → StartRes × State) (s : State) : StartRes × State :=
  if s.cfg.panels.autoFromPanels then start s else (.refused .notPermitted 255, s)

/-- WINDLASS_AUTO's run: LOWER_TO 0 with its target count, or HOIST_HOME 1 (R178). -/
def autoRun (b : Binding) : Run := if b.p1 = 0 then .lowerTo b.p2.toNat else .hoistHome

/-- A binding's action at its owning block (R175 to R179). -/
def act (i : Fin 64) (b : Binding) (e : Event) (s : State) : StartRes × State :=
  match b.action with
  | .sceneStart => actSceneStart i b s
  | .sceneStop => actSceneStop b s
  | .channelSet => actChannel b (fun _ => b.p2.toNat) s
  | .channelToggle => actChannel b (fun l => if l = 0 then b.p2.toNat else 0) s
  | .channelStep => actChannel b (stepTarget b.p2) s
  | .axisHold => actHold e (fun a k => commandMove enqueue (axisOf b.p1) b.p2.toNat (.panel a k)) s
  | .axisGo => actAuto (commandMove enqueue (axisOf b.p1) b.p2.toNat .bindingAuto) s
  | .axisStop => (.done, commandStop enqueue b.p1 s)
  | .sequenceStart =>
    if b.p2 = 1 then actHold e (fun a k => startSequence enqueue (seqKindOf b.p1) (.panel a k)) s
    else actAuto (startSequence enqueue (seqKindOf b.p1) .bindingAuto) s
  | .windlassHold => actHold e (fun a k => panelHold enqueue a k (holdKindOf b.p1) b.p2.toNat) s
  | .windlassAuto => actAuto (startWindlass enqueue (autoRun b) .bindingAuto) s
  | .windlassStop => (.done, stopWindlass enqueue .hostStop s)
  | .notify => (.done, notice .notified i ((b.p1 : Int) :: eventValues e) s)

/-- The outcome of an action: only a refusal is reported (R174). -/
def reportAction (i : Fin 64) (e : Event) (r : StartRes) (s : State) : State :=
  match r with
  | .refused c d => notice .refused i ([(codeIn statuses c : Int), d] ++ eventValues e) s
  | .begun | .done | .ignored => s

/-- A binding acts: its match count increases and its action is carried out (R173). -/
def bindingActs (i : Fin 64) (depth : Nat) (e : Event) (s : State) : State :=
  let s1 := { s with bind := { s.bind with
    counts := s.bind.counts.set i (min 65535 (s.bind.counts[i] + 1)), acting := some (depth, i) } }
  let r := act i s.cfg.bindings[i] e s1
  let s2 := reportAction i e r.1 r.2
  { s2 with bind := { s2.bind with acting := none } }

/-- An event is taken: matched against the bindings, or, at depth 4, only reported with CHAIN_LIMIT (R173), whose
event code is the plain one, without 256 times the source (the model's choice, log 80). -/
def takeEvent (q : Queued) (s : State) : State :=
  if 4 ≤ q.depth then
    match q.event with
    | .internal code sub _ => notice .chainLimit q.raisedBy [codeIn evCodes code, sub] s
    | .key a k kind => notice .chainLimit q.raisedBy [codeIn keyKinds kind, keyNumber a k] s
  else
    match s.matching q.event with
    | none => s
    | some i => bindingActs i q.depth q.event s

/-- Take n events from the head of the event list. A sequence whose step has ended goes on when the binding on
the axis's event has acted, before the next event of the list (R113, log 56). -/
def takeEvents : Nat → State → State
  | 0, s => s
  | n + 1, s =>
    match s.bind.events with
    | [] => s
    | q :: rest =>
      takeEvents n (settleSeq enqueue
        (takeEvent q (reportDropped { s with bind := { s.bind with events := rest } })))

/-- Take the event list from its head until it is empty: what an action raises is one deeper than what stands
in the list, and five rounds cut it. A sequence step that ends inside an action begins at depth 0 again; it
ends so only where an axis stows at once, which each axis does once at most. -/
def drainEvents : Nat → State → State
  | 0, s => s
  | n + 1, s => drainEvents n (takeEvents s.bind.events.length s)

/-- An event offered to the Binding block: kept in the start-up list in STARTING; into the event list while
an action is carried out; else taken at once at depth 0, and the event list after it (R173). -/
def offerNow : Offer := fun e s =>
  if s.starting then enqueueStartUp e s
  else if s.bind.acting.isSome then enqueue e s
  else drainEvents 16 (takeEvent ⟨e, 0, 0⟩ s)

/-- Take n events from the head of the start-up list, as events of depth 0. -/
def takeStartUp : Nat → State → State
  | 0, s => s
  | n + 1, s =>
    match s.bind.startUp with
    | [] => s
    | e :: rest =>
      takeStartUp n (takeEvent ⟨e, 0, 0⟩
        (reportDroppedStartUp { s with bind := { s.bind with startUp := rest } }))

/-- STARTING has ended: the start-up list is taken before any other event, then what it has raised (R173). -/
def drainStartUp (s : State) : State := drainEvents 16 (takeStartUp s.bind.startUp.length s)

/-! ### The binding table (R170, R180) -/

/-- The values of an event's value set: their number, 0 for an event that carries none (R172). -/
def valueCount : EvCode → Nat
  | .playerDone => playerOutcomes.length
  | .sequenceEnd => 2
  | .windlassStopped => stopCauses.length
  | .windlassFault => wlCauses.length
  | .inputActive | .inputInactive | .inputPulse | .axisStart | .axisExtended | .axisStowed | .axisHalted
  | .axisFault | .windlassStart | .anchoredSet | .anchoredClear => 0

/-- The record that a BINDING_WRITE carries; none where a code has no name (R216), the busy mode's among them also
of an action that uses none (the model's choice, log 78). -/
def bindingOf (p : BindingPart) : Option Binding :=
  match actions[p.action]?, busyModes[p.busy]? with
  | some a, some m =>
    some { enabled := p.flags % 2 == 1, event := p.flags / 2 % 2 == 1, kind := p.kind, match1 := p.match1,
           match2 := p.match2, action := a, busy := m, p1 := p.p1, p2 := p.p2, p3 := p.p3 }
  | _, _ => none

/-- The source fields lie in their ranges, and a value filter is one of the event's values (R170). The filter is
the low byte of its field (R216); a high byte that is not 0 is out of range (the model's choice, log 77). -/
def Binding.sourceOk (b : Binding) : Bool :=
  if b.event then
    match evCodes[b.kind]? with
    | none => false
    | some c => b.match2 == 255 || decide (b.match2 < valueCount c)
  else b.kind < 4 && b.match1 ≤ 511 && b.match2 ≤ 511

/-- The target of an axis action: 0..1000, and 0 or 1000 for HATCH (R177, R178). -/
def axisTargetOk (axis : Nat) (t : Int) : Bool :=
  decide (0 ≤ t) && decide (t ≤ 1000) && (axis == 0 || t == 0 || t == 1000)

/-- The parameters of an action lie in their ranges (section 9.3). Those that the action does not use are not
judged (the model's choice, log 78). -/
def Binding.paramsOk (b : Binding) : Bool :=
  let range (lo hi : Int) : Bool := decide (lo ≤ b.p2) && decide (b.p2 ≤ hi)
  match b.action with
  | .sceneStart => b.p1 < 4 && range 0 63
  | .sceneStop => b.p1 < 4 && range 0 1
  | .channelSet => b.p1 < 24 && range 0 1000 && b.p3 ≤ 60000
  | .channelToggle => b.p1 < 24 && range 1 1000 && b.p3 ≤ 60000
  | .channelStep => b.p1 < 24 && range (-1000) 1000 && b.p2 != 0 && b.p3 ≤ 60000
  | .axisHold | .axisGo => b.p1 < 2 && axisTargetOk b.p1 b.p2
  | .axisStop => b.p1 < 3
  | .sequenceStart => b.p1 < 2 && range 0 1
  | .windlassHold => b.p1 < 3 && (b.p1 != 2 || range 0 9999)
  | .windlassAuto => b.p1 < 2 && (b.p1 != 0 || range 1 9999)
  | .windlassStop | .notify => true

/-- A hold action (R177). -/
def Binding.holds (b : Binding) : Bool :=
  match b.action with
  | .axisHold | .windlassHold => true
  | .sequenceStart => b.p2 == 1
  | .sceneStart | .sceneStop | .channelSet | .channelToggle | .channelStep | .axisGo | .axisStop
  | .windlassAuto | .windlassStop | .notify => false

/-- A binding as the table may hold it: checks 1 and 2 of R170 but for the index. -/
def Binding.ok (b : Binding) : Bool :=
  b.sourceOk && b.paramsOk && (!b.holds || (!b.event && b.kind == codeIn keyKinds .press))

/-- BINDING_WRITE (R170); a change of the content sets the section's changed mark (R203). -/
def bindingWrite (p : BindingPart) (s : State) : State × Ans :=
  if h : p.index < 64 then
    match bindingOf p with
    | none => (s, Ans.refused .outOfRange)
    | some b =>
      if b.ok = false ∨ 4 ≤ p.flags ∨ p.zero ≠ 0 then (s, Ans.refused .outOfRange)
      else if s.committing then (s, Ans.refused .busy)
      else
        ({ s with cfg := { s.cfg with bindings := s.cfg.bindings.set p.index b }
                  bind := { s.bind with counts := s.bind.counts.set p.index 0 } }.markIf
            (s.cfg.bindings[p.index] != b) 3, Ans.ok)
  else (s, Ans.refused .outOfRange)

/-- A binding's record in its layout (R216). -/
def Binding.bytes (b : Binding) (index : Nat) : List Byte :=
  [byteOf index, byteOf (flagByte [b.enabled, b.event]), byteOf b.kind] ++ le16 b.match1 ++ le16 b.match2 ++
  [byteOf (codeIn actions b.action), byteOf (codeIn busyModes b.busy), byteOf b.p1] ++ leI16 b.p2 ++
  le16 b.p3 ++ [0]

/-- BINDING_READ: the record with its match count (R180). -/
def bindingReadAns (index : Nat) (s : State) : Ans :=
  if h : index < 64 then ⟨.ok, 0, s.cfg.bindings[index].bytes index ++ le16 s.bind.counts[index]⟩
  else Ans.refused .outOfRange

/-! ### The indicator table (R181 to R184) -/

/-- Put an entry in a list that is keyed in rising order. -/
def putKey {α : Type} (k : Nat) (v : α) : List (Nat × α) → List (Nat × α)
  | [] => [(k, v)]
  | e :: rest =>
    if k < e.1 then (k, v) :: e :: rest
    else if k = e.1 then (k, v) :: rest
    else e :: putKey k v rest

/-- Remove an entry of a keyed list. -/
def dropKey {α : Type} (k : Nat) (l : List (Nat × α)) : List (Nat × α) := l.filter fun e => e.1 != k

/-- Find an entry of a keyed list. -/
def findKey {α : Type} (k : Nat) (l : List (Nat × α)) : Option α := (l.find? fun e => e.1 == k).map (·.2)

/-- A handed-on PRESS starts its key's flash timer at 150 ms (R183). -/
def startFlash (address key : Nat) (s : State) : State :=
  { s with bind := { s.bind with flashes := putKey (keyNumber address key) 150 s.bind.flashes } }

/-- FLASH_END: the timer has run out (R183). -/
def flashEnds (p : Fin 32) (key : Fin 16) (s : State) : State :=
  let k := keyNumber (p + 1) key
  if findKey k s.bind.flashes = some 0 then
    { s with bind := { s.bind with flashes := dropKey k s.bind.flashes } }
  else s

/-- The governing binding of a key: the lowest enabled KEY binding of kind PRESS that a PRESS of it would
match (R182). -/
def State.governing (s : State) (address key : Nat) : Option Binding :=
  (s.matching (.key address key .press)).map fun i => s.cfg.bindings[i]

/-- The axes a binding's action names (R182). -/
def Binding.axes (b : Binding) : List AxisId :=
  if b.action = .axisStop ∧ b.p1 = 2 then axisIds else [axisOf b.p1]

/-- The conditions of R182 for an action's subject: slow, fast, on. -/
def State.lampRows (s : State) (b : Binding) : Bool × Bool × Bool :=
  match b.action with
  | .sceneStart | .sceneStop =>
    (false, false, if h : b.p1 < 4 then (s.player ⟨b.p1, h⟩).state != .idle else false)
  | .channelSet | .channelToggle | .channelStep =>
    if h : b.p1 < 24 then (s.chan[b.p1].fault == .latched, false, s.chan[b.p1].level != 0)
    else (false, false, false)
  | .axisHold | .axisGo | .axisStop =>
    (b.axes.any fun a => (s.axis a).state == .fault || 0 < (s.axis a).cooldown.getD 0,
     b.axes.any fun a => (s.axis a).state.moving,
     b.axes.any fun a => (s.axis a).state == .extended || (s.axis a).state == .halted)
  | .sequenceStart =>
    (s.stern.platform.state == .fault || s.stern.hatch.state == .fault,
     s.stern.seq.running && s.stern.seq.kind == some (seqKindOf b.p1),
     s.stern.seq.state == .done && s.stern.seq.kind == some (seqKindOf b.p1))
  | .windlassHold | .windlassAuto | .windlassStop =>
    (s.wl.state == .fault || s.wl.state == .lockout, s.wl.state.running, s.vessel.anchored)
  | .notify => (false, false, false)

/-- The automatic mode of a key and its colour (R182). -/
def State.autoMode (s : State) (address key : Nat) : IndMode × Colour :=
  match s.governing address key with
  | none => (.off, .green)
  | some b =>
    let r := s.lampRows b
    if r.1 then (.blinkSlow, .red)
    else if r.2.1 then (.blinkFast, .amber)
    else if r.2.2 then (.on, .green) else (.off, .green)

/-- The shown mode of a key: the flash, the override, the automatic mode (R181). -/
def State.shownMode (s : State) (address key : Nat) : IndMode × Colour :=
  if (findKey (keyNumber address key) s.bind.flashes).isSome then (.flash, .white)
  else (findKey (keyNumber address key) s.bind.overrides).getD (s.autoMode address key)

/-- What INDICATOR_SET does to one key: modes 0 to 3 place an override, AUTO 5 removes it, KEEP 6 changes
nothing (R184, R213). -/
def setIndicator (address mode : Nat) (c : Colour) (s : State) (key : Nat) : State :=
  let k := keyNumber address key
  if mode = 6 then s
  else if mode = 5 then { s with bind := { s.bind with overrides := dropKey k s.bind.overrides } }
  else { s with bind := { s.bind with
    overrides := putKey k (indModes.getD mode .off, c) s.bind.overrides } }

/-- The reply's byte for a key: mode, colour, override mark (R216). -/
def State.lampByte (s : State) (address key : Nat) : Byte :=
  let m := s.shownMode address key
  byteOf (codeIn indModes m.1 + 8 * codeIn colours m.2 +
    64 * (findKey (keyNumber address key) s.bind.overrides).isSome.toNat)

/-- The colour that an INDICATOR_SET carries: AUTO 5 and KEEP 6 carry none, which is 0xFF in its byte; one that
has a name is taken beside them and not used (R184, R213, log 57). -/
def colourOf (mode colour : Nat) : Option Colour :=
  if 5 ≤ mode ∧ colour = 255 then some .green else colours[colour]?

/-- INDICATOR_SET (R184). -/
def indicatorSet (address key mode colour : Nat) (s : State) : State × Ans :=
  match colourOf mode colour with
  | none => (s, Ans.refused .outOfRange)
  | some c =>
    if (panelOf address).isNone ∨ 16 < key ∨ mode = 4 ∨ 6 < mode then (s, Ans.refused .outOfRange)
    else
      let s1 := (if key = 16 then List.range 16 else [key]).foldl (setIndicator address mode c) s
      (s1, ⟨.ok, 0, (List.range 16).map (s1.lampByte address)⟩)

end Sys2Proof.Machine
end

