-- ==== Sys2Proof/Machine/Panels.lean ====
section
/-! DEFINITION. The Panel Bus block (08_panel_bus.md): the slots and their calls, the answers, link
integrity, key events, and the deadman. -/

namespace Sys2Proof.Machine

/-- A panel's bus address, 1..32. -/
def addressOf (p : Fin 32) : Nat := p.val + 1
/-- Change a panel's entry. -/
def State.modEntry (s : State) (p : Fin 32) (f : Panel → Panel) : State := s.setEntry p (f (s.entry p))
/-- The link state of a panel. -/
def State.linkOf (s : State) (p : Fin 32) : Link := (s.entry p).link
/-- The resolved version, all ones where it is absent (R213). -/
def Panel.versionValue (e : Panel) : Nat := e.version.getD 255

/-! ### Holdings that the Panel Bus block ends (R156, R165 to R167) -/

/-- RELEASE, DEADMAN or LINK_DOWN is reported to a holding's subject (R107, R132). -/
def reportHolding (off : Offer) (cause : StopCause) (address : Nat) (h : Holding) (s : State) : State :=
  match h.subject with
  | .platform => axisReport off .platform address h.key s
  | .hatch => axisReport off .hatch address h.key s
  | .sequence => seqReport off address h.key s
  | .windlass => windlassReport off cause address h.key s

/-- A holding ends as its report is made (R165). -/
def dropHolding (off : Offer) (cause : StopCause) (p : Fin 32) (s : State) (h : Holding) : State :=
  reportHolding off cause (addressOf p) h (endHolding (addressOf p) h.key h.subject s)

/-- Every holding of a panel ends, and its subject is told LINK_DOWN (R153, R156, R160): several in the order in
which they began (the model's choice, log 71). -/
def dropAll (off : Offer) (p : Fin 32) (s : State) : State :=
  (s.entry p).holdings.foldl (dropHolding off .linkDown p) s

/-- The holdings of one key of a panel. -/
def State.keyHoldings (s : State) (p : Fin 32) (key : Nat) : List Holding :=
  (s.entry p).holdings.filter fun h => h.key == key

/-- A RELEASE, or a PRESS of a key that already holds, ends its holding with RELEASE (R167). A PRESS that ends a
panel's only holding and starts it again has the panel leave the fast-poll list and join at its tail (R165; worked
example 8.8 has it stay, the model's choice, log 70). -/
def releaseKey (off : Offer) (p : Fin 32) (key : Nat) (s : State) : State :=
  (s.keyHoldings p key).foldl (dropHolding off .release p) s

/-- DEADMAN: a holding's timer has run out; its subject is told, and the notice given (R166), after what the subject
makes of it (the model's choice, log 108). -/
def deadmanExpires (off : Offer) (p : Fin 32) (key : Fin 16) (s : State) : State :=
  ((s.keyHoldings p key).filter fun h => h.deadman == 0).foldl
    (fun acc h => notice .deadman (addressOf p) [h.key, codeIn holdSubjects h.subject]
      (dropHolding off .deadman p acc h)) s

/-! ### Key events (R161 to R163) -/

/-- The Panel Bus block takes an event for the panel's holdings (R163 step 1). -/
def holdingTakes (off : Offer) (p : Fin 32) (key : Nat) (kind : KeyKind) (s : State) : State :=
  match kind with
  | .hold | .held => feedDeadman p key s
  | .press | .release => releaseKey off p key s

/-- The KEY notice of a kind. -/
def keyNote : KeyKind → Note
  | .press => .keyPress
  | .release => .keyRelease
  | .hold => .keyHold
  | .held => .keyHeld

/-- A key event of a good POLL answer: discarded, or handed on in the three steps of R163; a PRESS handed on
starts its flash before it is matched (R162, R163, R183). -/
def keyEvent (off : Offer) (p : Fin 32) (s : State) (e : Nat × KeyKind) : State :=
  let x := s.entry p
  if x.link ≠ .up ∧ x.link ≠ .failing then s
  else if (x.caps.map (·.keyCount)).getD 0 ≤ e.1 ∨
      ((e.2 = .hold ∨ e.2 = .held) ∧ x.version = some 1) then
    notice .eventDiscarded (addressOf p) [e.1, codeIn keyKinds e.2] s
  else
    let s1 := notice (keyNote e.2) (addressOf p) [e.1] (holdingTakes off p e.1 e.2 s)
    off (.key (addressOf p) e.1 e.2) (if e.2 = .press then startFlash (addressOf p) e.1 s1 else s1)

/-! ### Link integrity (R155, R156) -/

/-- A miss for the address that was called (R155). -/
def linkMiss (off : Offer) (p : Fin 32) (s : State) : State :=
  let e := s.entry p
  match e.link with
  | .joining =>
    if e.miss + 1 < 4 then s.setEntry p { e with good := 0, miss := e.miss + 1 }
    else
      let s1 := dropAll off p s
      notice .lost (addressOf p) [] (s1.setEntry p { holdings := (s1.entry p).holdings })
  | .up => notice .linkFailing (addressOf p) [] (s.setEntry p { e with link := .failing, miss := 1 })
  | .failing =>
    if e.miss + 1 < 4 then s.setEntry p { e with miss := e.miss + 1 }
    else
      notice .linkDown (addressOf p) [e.holdings.length]
        (dropAll off p (s.setEntry p { e with link := .down, miss := 4 }))
  | .absent | .down | .incompatible => s

/-- A good POLL answer (R155). -/
def linkGood (p : Fin 32) (s : State) : State :=
  let e := s.entry p
  match e.link with
  | .joining =>
    if e.good + 1 < 3 then s.setEntry p { e with good := e.good + 1, miss := 0 }
    else notice .linkUp (addressOf p) [e.versionValue]
      (s.setEntry p { e with link := .up, good := 0, miss := 0 })
  | .up => s.setEntry p { e with good := 0, miss := 0 }
  | .failing => notice .linkUp (addressOf p) [e.versionValue]
      (s.setEntry p { e with link := .up, good := 0, miss := 0 })
  | .down => notice .joined (addressOf p) [e.versionValue, 1]
      (s.setEntry p { e with link := .joining, good := 0, miss := 0, assignPending := false })
  | .absent | .incompatible => s

/-! ### Discovery and rejoining (R150, R153) -/

/-- The highest version in a set of versions as bits (R150). -/
def highestVersion (set : Nat) : Option Nat :=
  if set / 4 % 2 = 1 then some 3 else if set / 2 % 2 = 1 then some 2 else if set % 2 = 1 then some 1 else none

/-- What a discovery answer says of the panel: a capability record, or the legacy short answer. -/
structure Discovery where
  caps : Caps
  legacy : Bool
  deriving DecidableEq, Repr

/-- The panel of a legacy short answer: version 1, 8 keys, MONO, no hold reports (R150 step 2). -/
def legacyPanel : Discovery := ⟨⟨1, 8, .mono, false⟩, true⟩

/-- A discovery answer is resolved against VERSION_SET: JOINING, or INCOMPATIBLE with its notice (R150). -/
def resolve (p : Fin 32) (d : Discovery) (s : State) : State :=
  let e := s.entry p
  match highestVersion (d.caps.versions &&& s.cfg.panels.versionSet) with
  | some v => s.setEntry p { e with
      link := .joining, caps := some d.caps, legacy := d.legacy, version := some v,
      assignPending := !d.legacy, good := 0, miss := 0 }
  | none =>
    notice .incompatible (addressOf p) [d.caps.versions, s.cfg.panels.versionSet]
      (s.setEntry p { e with
        link := .incompatible, caps := some d.caps, legacy := d.legacy, version := none,
        assignPending := false, good := 0, miss := 0 })

/-- A discovery answer to a DISCOVER (R150). -/
def discovered (p : Fin 32) (d : Discovery) (s : State) : State :=
  let s1 := resolve p d s
  if s1.linkOf p = .joining then notice .joined (addressOf p) [(s1.entry p).versionValue, 0] s1 else s1

/-- A discovery answer to an ASSIGN or a POLL (R153). Where the entry becomes INCOMPATIBLE, that notice comes before
REJOINED (the model's choice, log 90). -/
def rejoined (off : Offer) (p : Fin 32) (d : Discovery) (s : State) : State :=
  let old := (s.entry p).versionValue
  let s1 := resolve p d (dropAll off p s)
  notice .rejoined (addressOf p) [old, (s1.entry p).versionValue] s1

/-! ### Answers (R147, R217, R218) -/

/-- An answer as its frame reads. -/
inductive Answer where
  | discovery (d : Discovery)
  | ack (version : Nat)
  | keys (events : List (Nat × KeyKind))
  deriving DecidableEq, Repr

/-- A frame's address, kind and payload, if its LENGTH and its check are right (R217). -/
def parseFrame (f : List Byte) : Option (Nat × Nat × List Byte) :=
  let n := rd8 f 2
  if f.length = n + 4 ∧ crc8 (f.take (n + 3)) = f.getD (n + 3) 0 then
    some (rd8 f 0, rd8 f 1, (f.drop 3).take n)
  else none

/-- A key event byte: key in bits 0 to 3, kind in bits 4 and 5, the rest zero (R217). -/
def keyByte (b : Byte) : Option (Nat × KeyKind) :=
  if 64 ≤ b.toNat then none else (keyKinds[b.toNat / 16]?).map fun k => (b.toNat % 16, k)

/-- A capability record within its ranges (R150, R217, R218). -/
def capsOf (p : List Byte) : Option Caps :=
  let v := rd8 p 0
  let k := rd8 p 1
  if p.length = 4 ∧ 1 ≤ v ∧ v ≤ 7 ∧ 1 ≤ k ∧ k ≤ 16 ∧ rd8 p 3 ≤ 1 then
    (indKinds[rd8 p 2]?).map fun i => ⟨v, k, i, rd8 p 3 == 1⟩
  else none

/-- An answer of a known kind with a LENGTH and a content of its kind (R217, R218). -/
def answerOf (kind : Nat) (p : List Byte) : Option Answer :=
  if kind = 0x10 then (capsOf p).map fun c => .discovery ⟨c, false⟩
  else if kind = 0x11 then (if p.length = 0 then some (.discovery legacyPanel) else none)
  else if kind = 0x12 then (if p.length = 1 then some (.ack (rd8 p 0)) else none)
  else if kind = 0x13 then (if p.length ≤ 4 then (p.mapM keyByte).map .keys else none)
  else none

/-- The answer that a frame gives to a called panel; none where it is not good by itself (R147). -/
def readAnswer (p : Fin 32) (f : List Byte) : Option Answer :=
  match parseFrame f with
  | none => none
  | some (a, kind, payload) => if a = addressOf p then answerOf kind payload else none

/-- A missed answer to a call: a DISCOVER leaves its entry ABSENT (R150, R155). -/
def missCall (off : Offer) (c : Call) (s : State) : State :=
  match c.kind with
  | .discover => s
  | .assign | .poll => linkMiss off c.panel s

/-- An answer judged against its call (R218). -/
def judgeAnswer (off : Offer) (c : Call) (a : Answer) (s : State) : State :=
  let e := s.entry c.panel
  match c.kind, a with
  | .discover, .discovery d => if e.link = .absent then discovered c.panel d s else s
  | .discover, .ack _ => s
  | .discover, .keys _ => s
  | .assign, .discovery d => if e.link = .absent then s else rejoined off c.panel d s
  | .assign, .ack v =>
    if e.version = some v ∧ e.link = .joining then
      s.setEntry c.panel { e with assignPending := false, miss := 0 }
    else linkMiss off c.panel s
  | .assign, .keys _ => linkMiss off c.panel s
  | .poll, .discovery d => if e.link = .absent then s else rejoined off c.panel d s
  | .poll, .ack _ => linkMiss off c.panel s
  | .poll, .keys evs => evs.foldl (keyEvent off c.panel) (linkGood c.panel s)

/-- The slot has been judged: further bytes are dropped (R146). -/
def State.closeCall (s : State) : State := { s with panel := { s.panel with call := none } }

/-- What the slot of a call has brought is noted; it is judged as the slot ends (R155, log 60). -/
def State.noteAnswer (s : State) (c : Call) (a : SlotAnswer) : State :=
  { s with panel := { s.panel with call := some { c with answer := a } } }

/-- The running slot has had its 5 ms, or none runs (R146). -/
def State.slotOver (s : State) : Bool := reached (s.panel.slotMs.getD 5) 5

/-- The time of n bytes on the panel bus in us: 10 bits each at 125,000 bit/s (R146). -/
def busTime (n : Nat) : Nat := 80 * n

/-- An answer of n bytes that ends in the running ms had certainly begun while the part was still sending its
call (R146, log 26). -/
def State.answerEarly (s : State) (c : Call) (n : Nat) : Bool :=
  decide (1000 * s.panel.slotMs.getD 0 + 999 < busTime (c.frame.length + n))

/-- An answer of n bytes that ends in the running ms has certainly begun more than 2 ms after the end of its
call (R146, log 26). -/
def State.answerLate (s : State) (c : Call) (n : Nat) : Bool :=
  decide (busTime (c.frame.length + n) + 2000 < 1000 * s.panel.slotMs.getD 0)

/-- The frame of an answer is of the kind that a command names: its kind byte. -/
def frameKind (f : List Byte) : Nat := rd8 f 1
/-- The kind byte of an answer (R217). -/
def AnswerKind.code : AnswerKind → Nat
  | .capability => 0x10
  | .short => 0x11
  | .ack => 0x12
  | .keys => 0x13

/-- MISSED_ANSWER: no answer in the window, or one that is not good. Within the slot the miss is noted; as the
slot ends it is judged, unless an answer has come (R147, R155, log 60). -/
def answerMissed (off : Offer) (s : State) : State :=
  match s.panel.call with
  | none => s
  | some c =>
    match c.answer with
    | .came _ _ => s
    | .awaited | .missed => if s.slotOver then missCall off c s.closeCall else s.noteAnswer c .missed

/-- What the slot of a call brings with a frame that arrives in it: bytes that come while the part sends, or
after an answer or a miss, are dropped; a late answer, or one that is not good by itself, is a miss
(R146, R147, log 60). -/
def hearAnswer (kind : AnswerKind) (f : List Byte) (c : Call) (s : State) : State :=
  if c.answer ≠ .awaited ∨ frameKind f ≠ kind.code ∨ s.answerEarly c f.length = true then s
  else s.noteAnswer c
    (if s.answerLate c f.length = true ∨ readAnswer c.panel f = none then .missed else .came kind f)

/-- The frame that a slot has brought, judged as the slot ends (R155, R218). -/
def judgeFrame (off : Offer) (c : Call) (f : List Byte) (s : State) : State :=
  match readAnswer c.panel f with
  | none => missCall off c s
  | some a => judgeAnswer off c a s

/-- CAPABILITY, SHORT, ACK or KEYS: within the slot the answer arrives, and is kept; as the slot ends the same
command, put in the queue again, judges the answer kept, with all it holds (R155, R156, 95, log 60). A frame of
another kind than the command names is not that command's event (log 3). -/
def takeAnswer (off : Offer) (kind : AnswerKind) (f : List Byte) (s : State) : State :=
  match s.panel.call with
  | none => s
  | some c =>
    if s.slotOver = false then hearAnswer kind f c s
    else if c.answer = .came kind f then judgeFrame off c f s.closeCall else s

/-- The command of an answer of a kind. -/
def AnswerKind.row (f : List Byte) : AnswerKind → Instr
  | .capability => .capability f
  | .short => .short f
  | .ack => .ack f
  | .keys => .keys f

/-- The command that judges the slot of a call as it ends (R155, log 60). -/
def Call.judgedBy (c : Call) : Instr :=
  match c.answer with
  | .awaited | .missed => .missedAnswer
  | .came kind f => kind.row f

/-! ### Calls (R149, R151, R217) -/

/-- A mode as a version 1 panel shows it, at an uptime (R151). -/
def litAt (m : IndMode) (uptime : Nat) : Bool :=
  match m with
  | .off => false
  | .on | .flash => true
  | .blinkSlow => uptime % 1000 < 500
  | .blinkFast => uptime % 250 < 125

/-- Bits packed from bit 0 of the first byte. -/
def packBits : List Bool → List Byte
  | a :: b :: c :: d :: e :: f :: g :: h :: rest => byteOf (flagByte [a, b, c, d, e, f, g, h]) :: packBits rest
  | [] => []
  | bits => [byteOf (flagByte bits)]

/-- The indicator states that a POLL carries (R151, R217). -/
def pollPayload (p : Fin 32) (s : State) : List Byte :=
  match (s.entry p).caps with
  | none => []
  | some c =>
    let shown := (List.range c.keyCount).map fun k => s.shownMode (addressOf p) k
    if c.indKind = .none then []
    else if (s.entry p).version = some 1 then packBits (shown.map fun m => litAt m.1 s.dev.uptime.toNat)
    else if (s.entry p).version = some 3 ∧ c.indKind = .rgb then
      shown.map fun m => byteOf (codeIn indModes m.1 + 8 * codeIn colours m.2)
    else shown.map fun m => byteOf (codeIn indModes m.1)

/-- The call that an entry's state asks for (R149). -/
def callKind (e : Panel) : CallKind :=
  if e.link = .absent then .discover
  else if e.link = .joining ∧ e.assignPending = true then .assign else .poll

/-- The bytes of a call (R217). -/
def callFrame (k : CallKind) (p : Fin 32) (s : State) : List Byte :=
  match k with
  | .discover => panelFrame (addressOf p) 0x01 []
  | .assign => panelFrame (addressOf p) 0x02 [byteOf ((s.entry p).version.getD 0)]
  | .poll => panelFrame (addressOf p) 0x03 (pollPayload p s)

/-- Start a call in the slot. -/
def placeCall (k : CallKind) (p : Fin 32) (s : State) : State :=
  { s with panel := { s.panel with call := some ⟨p, k, callFrame k p s, .awaited⟩ } }

/-! ### The scheduler (R157, R158) -/

/-- An entry that the walk visits: JOINING, UP or FAILING, and DOWN when the rotation count is 0 (R158). -/
def visited (rotation : Nat) (e : Panel) : Bool :=
  e.link == .joining || e.link == .up || e.link == .failing || (e.link == .down && rotation == 0)

/-- The next address of the walk, as an index: above the last one visited (R158). -/
def State.nextVisit (s : State) : Option (Fin 32) :=
  (List.finRange 32).find? fun p => s.panel.walked ≤ p.val && visited s.panel.rotation (s.entry p)

/-- The first ABSENT address at or after the discovery pointer, counting on from 32 to 1 (R158). -/
def State.nextAbsent (s : State) : Option (Fin 32) :=
  let ps := List.finRange 32
  let from' := ps.filter fun p => s.panel.discovery ≤ p
  let before := ps.filter fun p => p < s.panel.discovery
  (from' ++ before).find? fun p => (s.entry p).link == .absent

/-- The rotation ends: the count advances from 7 back to 0, and the walk stands at its start (R158). -/
def newRotation (s : State) : State :=
  { s with panel := { s.panel with rotation := (s.panel.rotation + 1) % 8, walked := 0, discovering := false } }

/-- The rotation whose discovery slot has been the running one ends as the next slot begins (R158). -/
def endDiscovery (s : State) : State := if s.panel.discovering then newRotation s else s

/-- A normal slot (R158): the walk's next visit, else the discovery slot that ends the rotation, after which
the count advances, else a new rotation at once. The first argument bounds the rotations tried: after eight,
nothing is to be called. -/
def normalSlot : Nat → State → State
  | 0, s => s
  | n + 1, s =>
    match s.nextVisit with
    | some p =>
      placeCall (callKind (s.entry p)) p { s with panel := { s.panel with walked := p.val + 1 } }
    | none =>
      match s.nextAbsent with
      | some p => placeCall .discover p
          { s with panel := { s.panel with discovery := p + 1, discovering := true } }
      | none => normalSlot n (newRotation s)

/-- A fast slot: the next panel of the fast-poll list, with POLL (R157). -/
def fastSlot (s : State) : State :=
  match s.panel.fast[s.panel.fastNext]? with
  | none => s
  | some p => placeCall .poll p { s with panel :=
      { s.panel with fastNext := (s.panel.fastNext + 1) % s.panel.fast.length } }

/-- A slot may begin: outside STARTING, with the last one judged and its 5 ms over (R146). -/
def State.slotFree (s : State) : Bool :=
  !s.starting && s.panel.call.isNone && s.slotOver

/-- SLOT_START (R157, R158): a discovery slot that is over ends its rotation; the slot is fast after a normal
slot while the fast-poll list is not empty, else normal. -/
def slotStart (s0 : State) : State :=
  if s0.slotFree then
    let s := endDiscovery s0
    let fast := !s.panel.lastFast && !s.panel.fast.isEmpty
    let s1 := { s with panel := { s.panel with slotMs := some 0, lastFast := fast } }
    if fast then fastSlot s1 else normalSlot 9 s1
  else s0

/-! ### Host requests (R160, R168) -/

/-- PANEL_FORGET (R160). -/
def panelForget (off : Offer) (address : Nat) (s : State) : State × Ans :=
  match panelOf address with
  | none => (s, Ans.refused .outOfRange)
  | some p =>
    let left := s.linkOf p
    let s1 := dropAll off p s
    let s2 := s1.setEntry p { holdings := (s1.entry p).holdings }
    (if left = .absent then s2 else notice .forgotten address [codeIn links left] s2, Ans.ok)

/-- A figure of the capability fields, 0 where they are absent. -/
def Panel.capNat (e : Panel) (f : Caps → Nat) : Nat := (e.caps.map f).getD 0

/-- The three bytes of an entry in PANEL_LIST (R216). -/
def Panel.bytes (e : Panel) : List Byte :=
  [ byteOf (codeIn links e.link + 8 * e.version.getD 0 + 32 * e.legacy.toNat +
      64 * e.capNat (fun c => c.canReport.toNat) + 128 * (!e.holdings.isEmpty).toNat),
    byteOf (e.capNat (·.versions) + 8 * e.capNat (fun c => codeIn indKinds c.indKind) + 32 * e.good),
    byteOf (e.capNat (·.keyCount) + 32 * e.miss) ]

/-- PANEL_LIST: the entries, the holdings, the fast-poll list, the rotation count and the discovery pointer
(R168, R216). The holdings of one panel are sent in the order in which they began (the model's choice, log 91), and
an address of the fast-poll list and the discovery pointer as one byte (the model's choice, log 112). -/
def panelListAns (s : State) : Ans :=
  let ps := List.finRange 32
  let holdings := (ps.map fun p => (s.entry p).holdings.map fun h =>
    [byteOf (addressOf p), byteOf (h.key + 16 * codeIn holdSubjects h.subject)]).flatten
  ⟨.ok, 0, (ps.map fun p => (s.entry p).bytes).flatten ++ counted holdings ++
    counted (s.panel.fast.map fun p => [byteOf (addressOf p)]) ++
    le16 s.panel.rotation ++ [byteOf (addressOf s.panel.discovery)]⟩

end Sys2Proof.Machine
end

