-- ==== Sys2Proof/Machine/CommandLink.lean ====
section
/-! DEFINITION. The Command Link block (10_command_link_and_notices.md): the receiver, the request list, the
transmitter, the device state and its supervision. -/

namespace Sys2Proof.Machine

/-! ### The receiver (R188) -/

/-- What a byte does besides moving the receiver. -/
inductive RxOutcome where
  | quiet | good (f : Frame) | checkFailed | cut
  deriving DecidableEq, Repr

/-- The receiver back in HUNT with no bytes held. -/
def Receiver.hunting (r : Receiver) : Receiver := { r with state := .hunt, held := [] }

/-- A frame is cut (R188). -/
def Receiver.cutFrame (r : Receiver) : Receiver :=
  { r.hunting with cutFrames := min 65535 (r.cutFrames + 1) }

/-- A frame as held after its SYNC: LENGTH, KIND, TAG, payload. -/
def frameOf (held : List Byte) : Frame := ⟨held.getD 1 0, held.getD 2 0, held.drop 3⟩

/-- A byte in HEADER: LENGTH, KIND or TAG. -/
def headerByte (b : Byte) (r : Receiver) : Receiver × RxOutcome :=
  let r1 := { r with held := r.held ++ [b] }
  match r.held with
  | [] => if 240 < b.toNat then (r.cutFrame, .cut) else (r1, .quiet)
  | [_] => (r1, .quiet)
  | len :: _ => ({ r1 with state := if len = 0 then .check else .payload }, .quiet)

/-- A byte at the receiver, by the table of R188. -/
def rxByte (b : Byte) (r : Receiver) : Receiver × RxOutcome :=
  match r.state with
  | .hunt => (if b = 0xC3 then { r with state := .header, held := [] } else r, .quiet)
  | .header => headerByte b r
  | .payload =>
    let held := r.held ++ [b]
    ({ r with held := held, state := if held.length = rd8 held 0 + 3 then .check else .payload }, .quiet)
  | .check =>
    if crc8 r.held = b then (r.hunting, .good (frameOf r.held))
    else ({ r.hunting with checkFailures := min 65535 (r.checkFailures + 1) }, .checkFailed)

/-- A byte arriving at an uptime: after a gap of more than 20 ms inside a frame, the frame is cut and the
byte is examined afresh in HUNT (R188). -/
def rxArrive (now : Uptime) (b : Byte) (r : Receiver) : Receiver × List RxOutcome :=
  let gap := r.state != .hunt && decide (20 < (now - r.lastAt).toNat)
  let o := rxByte b (if gap then r.cutFrame else r)
  ({ o.1 with lastAt := now },
    (if gap then [.cut] else []) ++ (if o.2 = .quiet then [] else [o.2]))

/-- A run of bytes, arriving at one uptime (log 22). -/
def rxFeed (now : Uptime) : List Byte → Receiver → Receiver × List RxOutcome
  | [], r => (r, [])
  | b :: bs, r =>
    let o := rxArrive now b r
    let rest := rxFeed now bs o.1
    (rest.1, o.2 ++ rest.2)

/-- Write the receiver. -/
def State.setRx (s : State) (r : Receiver) : State := { s with link := { s.link with rx := r } }

/-- The bytes fed into the receiver now. -/
def State.feed (s : State) (bytes : List Byte) : Receiver × List RxOutcome :=
  rxFeed s.dev.uptime bytes s.link.rx

/-! ### Good frames (R189, R200, R201) -/

/-- The supervision timer at its start: absent where SUPERVISION is 0 (R201). -/
def State.supervisionStart (s : State) : Option Nat :=
  if s.cfg.general.supervision = 0 then none else some s.cfg.general.supervision

/-- A good frame in STANDALONE brings the host back (R200): LINKED, HOST_BACK with its cause FIRST 0 or
RETURN 1, and the re-check of the LINKED terms (R79). -/
def hostBack (off : Offer) (s : State) : State :=
  let cause : Nat := if s.link.wasLinked then 1 else 0
  recheck off [.device] (notice .hostBack 0 [s.link.aloneMs, cause]
    { s with link := { s.link with
        device := .linked, supervision := s.supervisionStart, wasLinked := true, aloneMs := 0 } })

/-- What every good frame does to the device state and the timer (R199 to R201). -/
def goodFrameSeen (off : Offer) (s : State) : State :=
  match s.link.device with
  | .starting => s
  | .standalone => hostBack off s
  | .linked => { s with link := { s.link with supervision := s.supervisionStart } }

/-- The request joins the request list, which holds the one being taken and two more; a further one is
dropped and counted (R189). Once the RESET reply has been formed every frame is discarded (R194). -/
def placeRequest (f : Frame) (s : State) : State :=
  if s.link.resetReply then s
  else if s.link.requests.length < 3 then
    { s with link := { s.link with requests := s.link.requests ++ [f] } }
  else s.setRx { s.link.rx with dropped := min 65535 (s.link.rx.dropped + 1) }

/-- No good frame among outcomes: a run of bytes that completes one is the event GOOD_FRAME there. -/
def noneGood (os : List RxOutcome) : Bool :=
  os.all fun o => match o with
    | .good _ => false
    | .quiet | .checkFailed | .cut => true

/-- The event that a run of bytes ends with: its last outcome, where no earlier one is a good frame. Cuts and
failed checks may come before it, as a frame left open by a gap does (R188); the receiver has counted them. -/
def endsWith (os : List RxOutcome) : Option RxOutcome := if noneGood os.dropLast then os.getLast? else none

/-- GOOD_FRAME: bytes whose last one completes a good frame. Bytes that complete none are not this command's
event (log 3). -/
def goodFrame (off : Offer) (bytes : List Byte) (s : State) : State :=
  let o := s.feed bytes
  match endsWith o.2 with
  | some (.good f) => placeRequest f (goodFrameSeen off (s.setRx o.1))
  | _ => s

/-- FRAME_CHECK_FAILED: bytes whose last one is a check that differs. -/
def frameCheckFailed (bytes : List Byte) (s : State) : State :=
  let o := s.feed bytes
  match endsWith o.2 with
  | some .checkFailed => s.setRx o.1
  | _ => s

/-- FRAME_CUT by its cause, in a frame that is being received (R188). -/
def frameCut (bytes : List Byte) (cause : CutCause) (s : State) : State :=
  let o := s.feed bytes
  let open' : Bool := noneGood o.2 && o.1.state != .hunt
  match cause with
  | .oversize => if endsWith o.2 = some .cut then s.setRx o.1 else s
  | .framingError => if open' then s.setRx o.1.cutFrame else s
  | .gap next =>
    if open' then s.setRx { (rxByte next o.1.cutFrame).1 with lastAt := s.dev.uptime } else s

/-! ### Supervision (R201) -/

/-- The motion blocks' part of a move into STANDALONE (R107, R132). They take it together, both before the Permit
block or both after it, though R88 leaves the order open for each (log 59). The axes are stopped before the windlass
(the model's choice, log 99). -/
def motionStandalone (off : Offer) (s : State) : State := windlassStandalone off (sternStandalone off s)

/-- SUPERVISION_EXPIRY (R201): STANDALONE, HOST_LOST, then what the other blocks make of it (R77, R88), in one
order for both motion blocks (log 59). The record is made STALE, with VESSEL_STALE and SOURCE_CHANGED, before either
order begins, though the spec leaves that open too (the model's choice, log 107). -/
def supervisionExpires (off : Offer) (s : State) : State :=
  if s.link.device = .linked ∧ s.link.supervision = some 0 then
    let s1 := notice .hostLost 0 [s.cfg.general.supervision]
      { s with link := { s.link with device := .standalone, supervision := none, aloneMs := 0 } }
    race off [.device] (motionStandalone off) (becomeStale 1 s1)
  else s

/-! ### The transmitter (R192, R197) -/

/-- The ms a frame of n bytes takes on the line, rounded up: 10 bit times a byte at 115,200 bit/s (R186). -/
def lineTime (n : Nat) : Nat := (n * 10000 + 115199) / 115200

/-- Begin a frame. -/
def beginFrame (isNotice : Bool) (bytes : List Byte) (s : State) : State :=
  { s with link := { s.link with sending := some ⟨isNotice, bytes, 0⟩ } }

/-- The transmitter is free: the oldest formed reply, else in LINKED the oldest notice, else nothing; no
notice once the RESET reply has been formed (R192, R194, R197). A frame follows the one before at once (the model's
choice, log 110). -/
def sendNext (s : State) : State :=
  match s.link.replies, s.link.queue with
  | r :: _, _ => beginFrame false r.bytes s
  | [], n :: _ =>
    if s.link.device = .linked ∧ s.link.resetReply = false then beginFrame true n.bytes s else s
  | [], [] => s

/-- The last byte of a notice's frame has gone: it leaves the queue (R197). -/
def noticeSent (s : State) : State :=
  sendNext { s with link := { s.link with sending := none, queue := s.link.queue.drop 1 } }

/-- The last byte of a reply's frame has gone. -/
def replySent (s : State) : State :=
  sendNext { s with link := { s.link with sending := none, replies := s.link.replies.drop 1 } }

/-- The reply of a RESET that was taken. -/
def Reply.isReset (r : Reply) : Bool := r.kind == 0x03 && r.status == .ok

/-- The reply that is being sent is that of a RESET. -/
def State.sendingReset (s : State) : Bool :=
  match s.link.replies with
  | r :: _ => r.isReset
  | [] => false

/-! ### Replies (R190) -/

/-- A reply is formed. -/
def formReply (kind tag : Byte) (a : Ans) (s : State) : State :=
  { s with link := { s.link with
    replies := s.link.replies ++ [⟨kind, tag, a.status, a.detail, a.result⟩] } }

/-- The request at the head of the request list is the one being taken: it leaves the list as its reply is
formed (R189). One commanded from outside stands for itself (log 5). -/
def leaveList (kind tag : Byte) (s : State) : State :=
  match s.link.requests with
  | f :: rest =>
    if f.kind = kind ∧ f.tag = tag then { s with link := { s.link with requests := rest } } else s
  | [] => s

/-- A request is taken (R190): the LENGTH, STARTING, then the owning block. `refuse` forms the answer of a
request refused before its block. Once the RESET reply has been formed no request is taken (R194). -/
def takeRequest (kind : Byte) (q : Req) (lengthOk : Bool) (refuse : Status → State → Ans)
    (body : State → State × Ans) (s : State) : State :=
  if s.link.resetReply then s
  else
    let s1 := leaveList kind q.tag s
    if lengthOk = false then formReply kind q.tag (refuse .badLength s1) s1
    else if s1.starting ∧ kind ≠ 0x01 then formReply kind q.tag (refuse .notReady s1) s1
    else formReply kind q.tag (body s1).2 (body s1).1

/-- A request refused before its block carries nothing beside its status (R191). -/
def plainRefusal (c : Status) (_ : State) : Ans := Ans.refused c

/-- A request of a fixed LENGTH. -/
def takeFixed (kind : Byte) (q : Req) (len : Nat) (body : State → State × Ans) (s : State) : State :=
  takeRequest kind q (q.len == len) plainRefusal body s

/-- NOTICE_ENABLE (R198): a set that names a class outside the ten is refused. -/
def noticeEnable (set : Nat) (s : State) : State × Ans :=
  if 1024 ≤ set then (s, Ans.refused .outOfRange)
  else ({ s with link := { s.link with enabled := BitVec.ofNat 10 set } }, ⟨.ok, 0, le16 set⟩)

end Sys2Proof.Machine
end

