-- ==== Sys2Proof/Machine/ConfigStore.lean ====
section
/-! DEFINITION. The Configuration block (11_stored_configuration_and_start_up.md): the items of the
sections, CONFIG_WRITE and CONFIG_READ, what a new value does at once, the checks of a loaded section, and
COMMIT. -/

namespace Sys2Proof.Machine

/-! ### Ranges of the records -/

/-- Roles that several inputs may hold (R60). -/
def DiRole.shared : DiRole → Bool
  | .general | .unused => true
  | .platStowEnd | .platOutEnd | .platLatchFree | .hatchClosedEnd | .hatchOpenEnd | .hatchLatchFree
  | .anchorHome | .footUp | .footDown | .swimZone | .tenderCradle | .shorePresent | .commissionKey => false

/-- A digital input record within its ranges (R60). -/
def DiCfg.ok (k : DiCfg) : Bool :=
  (!k.pulse || k.role == .general) && (5 ≤ k.tStable && k.tStable ≤ 500) && k.stuckLimit ≤ 600 &&
  (5 ≤ k.pulseMin && k.pulseMin ≤ 200) && (100 ≤ k.pulseMax && k.pulseMax ≤ 5000) &&
  decide (k.pulseMin < k.pulseMax)

/-- The top of a role's engineering range (R67); UNUSED takes the widest (log 29). -/
def AiRole.top : AiRole → Nat
  | .platPosition | .hatchPosition => 1000
  | .busVoltage => 3200
  | .windlassCurrent | .unused => 4000

/-- An analog input record within its ranges (R67). -/
def AiCfg.ok (k : AiCfg) : Bool :=
  decide (k.rawLo < k.rawHi) && k.rawHi ≤ 4095 && k.eLo ≤ k.role.top && k.eHi ≤ k.role.top &&
  k.eLo != k.eHi && k.margin ≤ 400

/-- A channel record within its ranges (R1). -/
def ChCfg.ok (k : ChCfg) : Bool :=
  k.cls ≤ 3 && k.rated ≤ 150 && (1 ≤ k.trip && k.trip ≤ 200) && k.rated ≤ k.trip && k.openThr ≤ 50 &&
  k.partner ≤ 23 && (1 ≤ k.runTime && k.runTime ≤ 120) && (1 ≤ k.senseFull && k.senseFull ≤ 4000)

/-- The figures of an axis within their ranges (R93). -/
def AxisCfg.ok (k : AxisCfg) : Bool :=
  k.amount ≤ 4000 && (100 ≤ k.flowFull && k.flowFull ≤ 1000) && (50 ≤ k.flowCreep && k.flowCreep ≤ k.flowFull) &&
  k.slowZone ≤ 500 && (100 ≤ k.pumpLead && k.pumpLead ≤ 2000)

/-- A permit term's parameter and group within their ranges (R83). A condition that uses no parameter has any one
unjudged, and the term keeps it as written (the model's choice, log 85). -/
def Term.ok (t : Term) : Bool :=
  t.group ≤ 3 && match t.cond with
  | .speedBelow => t.param ≤ 999
  | .inputActive | .inputInactive => t.param ≤ 15
  | .sourceIs => t.param ≤ 3
  | .anchored | .notAnchored | .linked => t.param ≤ 65535

/-- The role of each digital input is its alone, but for GENERAL and UNUSED (R60). -/
def GeneralSec.diUnique (g : GeneralSec) : Bool :=
  (List.finRange 16).all fun i => (List.finRange 16).all fun j =>
    i == j || g.di[i].role.shared || g.di[i].role != g.di[j].role
/-- The role of each analog input is its alone, but for UNUSED (R67). -/
def GeneralSec.aiUnique (g : GeneralSec) : Bool :=
  (List.finRange 4).all fun i => (List.finRange 4).all fun j =>
    i == j || g.ai[i].role == .unused || g.ai[i].role != g.ai[j].role
/-- At most one channel has type BEACON (R1). -/
def ChannelsSec.oneBeacon (c : ChannelsSec) : Bool :=
  (List.finRange 24).all fun i => (List.finRange 24).all fun j =>
    i == j || c.ch[i].type != .beacon || c.ch[j].type != .beacon
/-- The figures of LIMITS that must fit together: the UV thresholds (R32), and HATCH_CLEARANCE against
GARAGE_PLATFORM_POS (R80). -/
def LimitsSec.linked (l : LimitsSec) : Bool :=
  decide (l.uvStop + l.uvHyst < l.uvShed) && l.hatchClearance ≤ l.garagePos

/-- SUPERVISION: 0, or 250..10000 (R201). -/
def supervisionOk (n : Nat) : Bool := n == 0 || (250 ≤ n && n ≤ 10000)

/-! ### The items (R204, R215, log 15) -/

/-- An item of a section: the size of its value, the value, the working copy with the value written (none
where the value is out of range), and whether the value held is in range. -/
structure Item where
  size : Nat
  read : Cfg → List Byte
  write : List Byte → Cfg → Option Cfg
  inRange : Cfg → Bool

/-- A figure of `size` bytes within lo..hi. -/
def figure (size lo hi : Nat) (get : Cfg → Nat) (put : Nat → Cfg → Cfg) : Item where
  size := size
  read c := (le32 (get c)).take size
  write v c := let n := rd32 v 0; if lo ≤ n ∧ n ≤ hi then some (put n c) else none
  inRange c := lo ≤ get c && get c ≤ hi

/-- A flag, in one byte. -/
def flagItem (get : Cfg → Bool) (put : Bool → Cfg → Cfg) : Item :=
  figure 1 0 1 (fun c => (get c).toNat) (fun n => put (n == 1))

/-- The bytes of a digital input record. -/
def DiCfg.bytes (k : DiCfg) : List Byte :=
  [byteOf (codeIn diRoles k.role), byteOf (!k.activeHigh).toNat, byteOf k.pulse.toNat] ++ le16 k.tStable ++
  le16 k.stuckLimit ++ le16 k.pulseMin ++ le16 k.pulseMax
/-- A digital input record from its bytes, in range (R60). -/
def diOf (v : List Byte) : Option DiCfg :=
  match diRoles[rd8 v 0]? with
  | none => none
  | some r =>
    let k : DiCfg := { role := r, activeHigh := rd8 v 1 == 0, pulse := rd8 v 2 == 1, tStable := rd16 v 3,
                       stuckLimit := rd16 v 5, pulseMin := rd16 v 7, pulseMax := rd16 v 9 }
    if rd8 v 1 ≤ 1 ∧ rd8 v 2 ≤ 1 ∧ k.ok then some k else none
/-- A digital input's item. -/
def diItem (n : Fin 16) : Item where
  size := 11
  read c := c.general.di[n].bytes
  write v c := (diOf v).map fun k => { c with general := { c.general with di := c.general.di.set n k } }
  inRange c := c.general.di[n].ok

/-- The bytes of an analog input record. The raw counts, the engineering values and the margin take two bytes each
(the model's choice, log 112). -/
def AiCfg.bytes (k : AiCfg) : List Byte :=
  byteOf (codeIn aiRoles k.role) :: (le16 k.rawLo ++ le16 k.rawHi ++ le16 k.eLo ++ le16 k.eHi ++ le16 k.margin)
/-- An analog input record from its bytes, in range (R67). -/
def aiOf (v : List Byte) : Option AiCfg :=
  match aiRoles[rd8 v 0]? with
  | none => none
  | some r =>
    let k : AiCfg := { role := r, rawLo := rd16 v 1, rawHi := rd16 v 3, eLo := rd16 v 5, eHi := rd16 v 7,
                       margin := rd16 v 9 }
    if k.ok then some k else none
/-- An analog input's item. -/
def aiItem (n : Fin 4) : Item where
  size := 11
  read c := c.general.ai[n].bytes
  write v c := (aiOf v).map fun k => { c with general := { c.general with ai := c.general.ai.set n k } }
  inRange c := c.general.ai[n].ok

/-- The bytes of a channel record with SENSE_FULL. The class and the partner take one byte each (the model's choice,
log 112). -/
def ChCfg.bytes (k : ChCfg) : List Byte :=
  [byteOf (codeIn chTypes k.type), byteOf k.cls] ++ le16 k.rated ++ le16 k.trip ++ le16 k.openThr ++
  [byteOf k.partner] ++ le16 k.runTime ++ le16 k.senseFull
/-- A channel record from its bytes, in range; a channel is not its own partner (R1). -/
def chOf (n : Fin 24) (v : List Byte) : Option ChCfg :=
  match chTypes[rd8 v 0]? with
  | none => none
  | some t =>
    let k : ChCfg := { type := t, cls := rd8 v 1, rated := rd16 v 2, trip := rd16 v 4, openThr := rd16 v 6,
                       partner := rd8 v 8, runTime := rd16 v 9, senseFull := rd16 v 11 }
    if k.ok ∧ k.partner ≠ n then some k else none
/-- A loaded channel record meets the constraints of R1: in range, and not its own partner. CH0's factory record,
whose default partner is 0, is let through (log 58). -/
def ChCfg.loads (k : ChCfg) (n : Fin 24) : Bool := k.ok && (k.partner != n.val || k == {})

/-- A channel's item. -/
def chItem (n : Fin 24) : Item where
  size := 13
  read c := c.channels.ch[n].bytes
  write v c := (chOf n v).map fun k => { c with channels := { c.channels with ch := c.channels.ch.set n k } }
  inRange c := c.channels.ch[n].loads n

/-- The bytes of an axis's figures. The flow figures take two bytes each (the model's choice, log 112). -/
def AxisCfg.bytes (k : AxisCfg) : List Byte :=
  le16 k.amount ++ le16 k.flowFull ++ le16 k.flowCreep ++ le16 k.slowZone ++ le16 k.pumpLead
/-- An axis's figures from their bytes, in range (R93). -/
def axisCfgOf (v : List Byte) : Option AxisCfg :=
  let k : AxisCfg := { amount := rd16 v 0, flowFull := rd16 v 2, flowCreep := rd16 v 4, slowZone := rd16 v 6,
                       pumpLead := rd16 v 8 }
  if k.ok then some k else none
/-- The item of an axis's figures. -/
def axisItem (a : AxisId) : Item where
  size := 10
  read c := (match a with | .platform => c.axes.platform | .hatch => c.axes.hatch).bytes
  write v c := (axisCfgOf v).map fun k =>
    match a with
    | .platform => { c with axes := { c.axes with platform := k } }
    | .hatch => { c with axes := { c.axes with hatch := k } }
  inRange c := (match a with | .platform => c.axes.platform | .hatch => c.axes.hatch).ok

/-- The bytes of a permit term (R216). -/
def Term.bytes (t : Term) : List Byte :=
  [byteOf (flagByte [t.enabled, t.continuous]), byteOf (codeIn subjects t.subject),
   byteOf (codeIn termDirs t.dir), byteOf (codeIn conds t.cond)] ++ le16 t.param ++ [byteOf t.group]
/-- A permit term from its bytes, in range (R83, R216). -/
def termOf (v : List Byte) : Option Term :=
  match subjects[rd8 v 1]?, termDirs[rd8 v 2]?, conds[rd8 v 3]? with
  | some s, some d, some c =>
    let t : Term := { enabled := rd8 v 0 % 2 == 1, continuous := rd8 v 0 / 2 == 1, subject := s, dir := d,
                      cond := c, param := rd16 v 4, group := rd8 v 6 }
    if rd8 v 0 < 4 ∧ t.ok then some t else none
  | _, _, _ => none
/-- A permit term's item. -/
def termItem (n : Fin 16) : Item where
  size := 7
  read c := c.limits.terms[n].bytes
  write v c := (termOf v).map fun t => { c with limits := { c.limits with terms := c.limits.terms.set n t } }
  inRange c := c.limits.terms[n].ok

/-- SUPERVISION's item. -/
def supervisionItem : Item where
  size := 2
  read c := le16 c.general.supervision
  write v c := if supervisionOk (rd16 v 0) then
    some { c with general := { c.general with supervision := rd16 v 0 } } else none
  inRange c := supervisionOk c.general.supervision

/-- A figure of the WINDLASS section. -/
def wlFigure (lo hi : Nat) (get : WindlassSec → Nat) (put : Nat → WindlassSec → WindlassSec) : Item :=
  figure 2 lo hi (fun c => get c.windlass) (fun n c => { c with windlass := put n c.windlass })
/-- The five figures of WINDLASS (R120). PITCH and ANCHORED_MIN take two bytes each (the model's choice, log 112). -/
def windlassItems : List Item :=
  [ wlFigure 0 4000 (·.amount) fun n k => { k with amount := n },
    wlFigure 10 2000 (·.pitch) fun n k => { k with pitch := n },
    wlFigure 1 9999 (·.maxRod) fun n k => { k with maxRod := n },
    wlFigure 0 200 (·.jogZone) fun n k => { k with jogZone := n },
    wlFigure 0 10000 (·.anchoredMin) fun n k => { k with anchoredMin := n } ]

/-- A limit of the SUPPLY section. -/
def supplyFigure (get : SupplySec → Nat) (put : Nat → SupplySec → SupplySec) : Item :=
  figure 2 0 4000 (fun c => get c.supply) (fun n c => { c with supply := put n c.supply })
/-- The four source limits (R19). -/
def supplyItems : List Item :=
  [ supplyFigure (·.shore) fun n k => { k with shore := n },
    supplyFigure (·.gen1) fun n k => { k with gen1 := n },
    supplyFigure (·.gen2) fun n k => { k with gen2 := n },
    supplyFigure (·.battery) fun n k => { k with battery := n } ]

/-- A figure of the LIMITS section. -/
def limitFigure (size lo hi : Nat) (get : LimitsSec → Nat) (put : Nat → LimitsSec → LimitsSec) : Item :=
  figure size lo hi (fun c => get c.limits) (fun n c => { c with limits := put n c.limits })
/-- LIMITS items 0 to 15 (R19, R32, R80, R93, R120, R166). The voltages take two bytes each, and so does COOLDOWN,
a time in s (the model's choice, log 112). -/
def limitItems : List Item :=
  [ limitFigure 2 0 1000 (·.margin) fun n k => { k with margin := n },
    limitFigure 2 2000 2600 (·.uvShed) fun n k => { k with uvShed := n },
    limitFigure 2 1800 2400 (·.uvStop) fun n k => { k with uvStop := n },
    limitFigure 2 10 200 (·.uvHyst) fun n k => { k with uvHyst := n },
    limitFigure 2 300 1000 (·.hatchClearance) fun n k => { k with hatchClearance := n },
    limitFigure 2 100 1000 (·.platMinTarget) fun n k => { k with platMinTarget := n },
    limitFigure 2 300 1000 (·.garagePos) fun n k => { k with garagePos := n },
    limitFigure 4 10000 120000 (·.runLimitPlat) fun n k => { k with runLimitPlat := n },
    limitFigure 4 10000 120000 (·.runLimitHatch) fun n k => { k with runLimitHatch := n },
    limitFigure 2 10 600 (·.cooldownPlat) fun n k => { k with cooldownPlat := n },
    limitFigure 2 10 600 (·.cooldownHatch) fun n k => { k with cooldownHatch := n },
    limitFigure 2 100 4000 (·.stallCurrent) fun n k => { k with stallCurrent := n },
    limitFigure 2 200 5000 (·.stallTime) fun n k => { k with stallTime := n },
    limitFigure 4 30000 600000 (·.tMax) fun n k => { k with tMax := n },
    limitFigure 2 20 2000 (·.freefallMin) fun n k => { k with freefallMin := n },
    limitFigure 2 100 500 (·.deadman) fun n k => { k with deadman := n } ]

/-- The items of a section, in the order of their codes (R215); SCENES and BINDINGS have none. -/
def itemsOf (sec : Nat) : List Item :=
  match sec with
  | 0 => (List.finRange 16).map diItem ++ (List.finRange 4).map aiItem ++
    [flagItem (·.general.shoreInputWins) fun b c => { c with general := { c.general with shoreInputWins := b } },
     supervisionItem]
  | 1 => (List.finRange 24).map chItem ++
    [figure 2 0 10000 (·.channels.beaconStretch) fun n c =>
      { c with channels := { c.channels with beaconStretch := n } }]
  | 4 =>
    [figure 1 1 7 (·.panels.versionSet) fun n c => { c with panels := { c.panels with versionSet := n } },
     flagItem (·.panels.autoFromPanels) fun b c => { c with panels := { c.panels with autoFromPanels := b } }]
  | 5 => [axisItem .platform, axisItem .hatch,
     flagItem (·.axes.stowAfterClose) fun b c => { c with axes := { c.axes with stowAfterClose := b } }]
  | 6 => windlassItems
  | 7 => supplyItems
  | 8 => limitItems ++ (List.finRange 16).map termItem
  | _ => []

/-- An item by its section and code. -/
def itemAt (sec item : Nat) : Option Item := (itemsOf sec)[item]?

/-! ### What a new value does at once (R204) -/

/-- A role write has removed the input of a role: the watch of R105 faults a STOWED axis whose stow end or latch
input it was. -/
def roleRemoved (off : Offer) (r : DiRole) (s : State) : State :=
  match r with
  | .platStowEnd | .platLatchFree => stowedLoses off .platform s
  | .hatchClosedEnd | .hatchLatchFree => stowedLoses off .hatch s
  | .platOutEnd | .hatchOpenEnd | .anchorHome | .footUp | .footDown | .swimZone | .tenderCradle
  | .shorePresent | .commissionKey | .general | .unused => s

/-- A rewritten digital input (R66): a change of role, level or mode restarts it, and an active one is first
handed on as inactive under its old record. A STUCK one gives STUCK_CLEARED with its old role, as its mark
clears: the list of what each step holds puts STUCK_CLEARED within CONFIG_WRITE (95, log 41). Then, where the role
changed, the old one has lost its input; the axis is judged as the hand-on has left it (R105, log 66). `old` is the
state before the write. -/
def diRewritten (off : Offer) (n : Fin 16) (old s : State) : State :=
  let k := old.diCfg n
  let k' := s.diCfg n
  if k.role = k'.role ∧ k.activeHigh = k'.activeHigh ∧ k.pulse = k'.pulse then s
  else
    let s1 := if old.validated n then
        { handOn off n false .inInactive [k.roleCode]
            (old.setDi n { old.diRt n with filtered := false, since := 0 }) with cfg := s.cfg }
      else if (old.diRt n).stuck then notice .stuckCleared n [k.roleCode] s
      else s
    let s2 := { s1 with dev := { s1.dev with changed := s.dev.changed } }
    let s3 := s2.setDi n { pin := (s.diRt n).pin }
    if k.role = k'.role then s3 else roleRemoved off k.role s3

/-- A rewritten analog input (R67): with a new role it is invalid until the next conversion, and the readers
of the old and the new role are told; new calibration figures apply from the next conversion, which finds
whether the recovery goes on under them. A SENSOR_FAULT does not outlast a new role (log 30), and no SENSOR_OK is
queued for its end (the model's choice, log 94). The reader of the old role is told first, with all that its events
lead to (the model's choice, log 104). -/
def aiRewritten (off : Offer) (n : Fin 4) (old s : State) : State :=
  if (old.aiCfg n).role = (s.aiCfg n).role then s
  else readAnalog off (s.aiCfg n).role (readAnalog off (old.aiCfg n).role (s.setAi n {}))

/-- The dead-time timer of a PAIR_A channel that no longer belongs to a matched pair is dropped (R14, log 14). One
that a write moves from a matched pair straight into another keeps its timer, which goes on as the new pair's (the
model's choice, log 83). -/
def dropDeadTimers (s : State) : State :=
  { s with chan := tab 24 fun i =>
      if s.pairHome i = some i then s.chan[i] else { s.chan[i] with deadMs := none } }

/-- The control state of a channel whose type or partner changed (R2): the fade, the run timer and the owner;
then its level becomes 0, which in a matched pair starts the pair's dead time where it was 1000 (R14), and on a
blinking BEACON channel 1000. Each change of the duty starts its own evaluation (R3, R20). The player that owned
the channel is told last (log 34). -/
def resetControl (off : Offer) (i : Fin 24) (s : State) : State :=
  let beacon := (s.chCfg i).type == .beacon
  let s1 := levelTo i 0 (dropDeadTimers (s.modChan i fun c =>
    { c with fade := none, runMs := none, owner := if beacon then .beacon else .none }))
  let s2 := if beacon && s.beacon.blinking then levelTo i 1000 s1 else s1
  match s.chan[i].owner.asPlayer with
  | none => s2
  | some p => settlePlayers off (loseChannel p i s2)

/-- A rewritten channel record (R1, R2, R13): an open-load check that is turned off clears its flag; a change
of class, type or rated current starts an evaluation, which finds the commanded level as it was; then the
control state is reset where the type or the partner changed (R20, log 34). What the channel's timers have counted
stays: the open-load time under another threshold that is not 0, the time above another trip current, and the run
timer, which another run time is judged against from the next ms (the model's choice, log 117). -/
def chRewritten (off : Offer) (i : Fin 24) (old s : State) : State :=
  let k := old.chCfg i
  let k' := s.chCfg i
  let s1 := if k'.openThr = 0 then s.modChan i fun c => { c with openFlag := false, openMs := 0 } else s
  let s2 := if k.cls ≠ k'.cls ∨ k.type ≠ k'.type ∨ k.rated ≠ k'.rated then evaluate s1 else s1
  if k.type = k'.type ∧ k.partner = k'.partner then s2 else resetControl off i s2

/-- SHORE_INPUT_WINS changed (R78, R87). -/
def shoreWinsChanged (off : Offer) (old s : State) : State :=
  let s1 := deriveSource 2 s
  if old.sourceIfFresh = s.sourceIfFresh then s1 else recheck off [.source] s1

/-- SUPERVISION changed (R201). -/
def supervisionChanged (s : State) : State :=
  if s.link.device = .linked then { s with link := { s.link with supervision := s.supervisionStart } } else s

/-- RUN_LIMIT changed: one lowered to the run timer or below gives RUN_TIMEOUT at once (R93). -/
def runLimitChanged (off : Offer) (a : AxisId) (s : State) : State := runTimeout off a s

/-- T_MAX changed: T is held to it, and the tests of R138 are made (R120). -/
def tMaxChanged (off : Offer) (s : State) : State :=
  lockoutOver off (thermalLockout off (s.setWl { s.wl with heat := min s.wl.heat s.cfg.limits.tMax }))

/-- What the owning block makes of a changed item at once; every other item applies at its next use. -/
def configTaken (off : Offer) (sec item : Nat) (old s : State) : State :=
  match sec with
  | 0 =>
    if h : item < 16 then diRewritten off ⟨item, h⟩ old s
    else if h : item - 16 < 4 then aiRewritten off ⟨item - 16, h⟩ old s
    else if item = 20 then shoreWinsChanged off old s else supervisionChanged s
  | 1 => if h : item < 24 then chRewritten off ⟨item, h⟩ old s else s
  | 6 => if item = 1 ∨ item = 4 then judgeAnchored off s else s
  | 7 => if item = codeIn sources s.vessel.active then evaluate s else s
  | 8 =>
    if item = 0 then evaluate s
    else if item = 7 then runLimitChanged off .platform s
    else if item = 8 then runLimitChanged off .hatch s
    else if item = 13 then tMaxChanged off s else s
  | _ => s

/-! ### CONFIG_WRITE and CONFIG_READ (R204, R205) -/

/-- Check 2 of R204: a second unique role, or a second BEACON channel. -/
def conflicts (sec : Nat) (c : Cfg) : Bool :=
  match sec with
  | 0 => !c.general.diUnique || !c.general.aiUnique
  | 1 => !c.channels.oneBeacon
  | _ => false

/-- The write is protected (R205): one to LIMITS, or of a digital input record that gives the role
COMMISSION_KEY while it is held, or that changes the record of the input holding it. One that carries the key
holder's record as it stands names the role and so gives it: it is protected too (the model's choice, log 84). -/
def State.protectedWrite (s : State) (sec item : Nat) (c : Cfg) : Bool :=
  sec == 8 || (sec == 0 && if h : item < 16 then
    s.roleHeld .commissionKey && (c.general.di[item].role == .commissionKey ||
      (s.cfg.general.di[item].role == .commissionKey && c.general.di[item] != s.cfg.general.di[item]))
    else false)

/-- CONFIG_WRITE of an item that exists, its value of the right size (R204). -/
def configPut (off : Offer) (it : Item) (sec item : Nat) (value : List Byte) (s : State) : State × Ans :=
  match it.write value s.cfg with
  | none => (s, Ans.refused .outOfRange)
  | some c =>
    if sec = 8 ∧ c.limits.linked = false then (s, Ans.refused .outOfRange)
    else if conflicts sec c then (s, Ans.refused .conflict)
    else if s.protectedWrite sec item c = true ∧ s.roleActive .commissionKey = false then
      (s, Ans.refused .prot)
    else if s.committing then (s, Ans.refused .busy)
    else if c = s.cfg then (s, Ans.ok)
    else (configTaken off sec item s ({ s with cfg := c }.markChanged sec), Ans.ok)

/-- CONFIG_WRITE (R204). -/
def configWrite (off : Offer) (sec item : Nat) (value : List Byte) (s : State) : State × Ans :=
  match itemAt sec item with
  | none => (s, Ans.refused .outOfRange)
  | some it => configPut off it sec item value s

/-- The LENGTH of a CONFIG_WRITE fits: two codes and the value of the item named, where there is one (R213,
R215). -/
def configLengthOk (len sec item : Nat) : Bool :=
  3 ≤ len && match itemAt sec item with
  | none => true
  | some it => len == 2 + it.size

/-- CONFIG_READ (R204). -/
def configReadAns (sec item : Nat) (s : State) : Ans :=
  match itemAt sec item with
  | none => Ans.refused .outOfRange
  | some it => ⟨.ok, 0, it.read s.cfg⟩

/-! ### The checks of a loaded section (R208) -/

/-- The items of a section are in range and fit together. -/
def sectionOk (sec : Nat) (c : Cfg) : Bool :=
  (itemsOf sec).all (fun it => it.inRange c) && !conflicts sec c && (sec != 8 || c.limits.linked)
/-- GENERAL (R60, R67, R201). -/
def GeneralSec.ok (g : GeneralSec) : Bool := sectionOk 0 { general := g }
/-- CHANNELS (R1, R17). -/
def ChannelsSec.ok (x : ChannelsSec) : Bool := sectionOk 1 { channels := x }
/-- A scene record within its ranges (R39). -/
def SceneRec.ok (r : SceneRec) : Bool :=
  let m := r.chans.length
  (1 ≤ m && m ≤ 24) && r.chans.all (· < 24) && decide r.chans.Nodup && r.fade ≤ 60000 &&
  r.name.length ≤ 16 && r.name.all printable && r.rows.length == r.steps &&
  r.rows.all (fun row => row.length == m && row.all (· ≤ 1000)) &&
  match r.kind with
  | .static => r.steps == 1
  | .sequence => (1 ≤ r.steps && r.steps ≤ 32) && (100 ≤ r.dwell && r.dwell ≤ 600000) && r.repeats ≤ 255
/-- SCENES: each record, and the pool (R40). -/
def scenesOk (v : Vector (Option SceneRec) 64) : Bool :=
  v.toList.all (fun o => (o.map SceneRec.ok).getD true) && (v.toList.map cellsOf).sum ≤ 768
/-- BINDINGS (R170). -/
def bindingsOk (v : Vector Binding 64) : Bool := v.toList.all Binding.ok
/-- PANEL_OPTIONS (R154). -/
def PanelSec.ok (x : PanelSec) : Bool := sectionOk 4 { panels := x }
/-- AXES (R93). -/
def AxesSec.ok (x : AxesSec) : Bool := sectionOk 5 { axes := x }
/-- WINDLASS (R120). -/
def WindlassSec.ok (x : WindlassSec) : Bool := sectionOk 6 { windlass := x }
/-- SUPPLY (R19). -/
def SupplySec.ok (x : SupplySec) : Bool := sectionOk 7 { supply := x }
/-- LIMITS (R19, R32, R80, R83, R93, R120, R166). -/
def LimitsSec.ok (x : LimitsSec) : Bool := sectionOk 8 { limits := x }

/-! ### COMMIT (R206, R207) -/

/-- A section of the stored copy equals the working copy. -/
def sectionEqual (n : Nv) (c : Cfg) (sec : Nat) : Bool :=
  match sec with
  | 0 => n.general == some c.general
  | 1 => n.channels == some c.channels
  | 2 => n.scenes == some c.scenes
  | 3 => n.bindings == some c.bindings
  | 4 => n.panels == some c.panels
  | 5 => n.axes == some c.axes
  | 6 => n.windlass == some c.windlass
  | 7 => n.supply == some c.supply
  | _ => n.limits == some c.limits

/-- Erase a section of the stored copy, or store the working copy's content in it. -/
def Nv.put (n : Nv) (c : Option Cfg) (sec : Nat) : Nv :=
  match sec with
  | 0 => { n with general := c.map (·.general) }
  | 1 => { n with channels := c.map (·.channels) }
  | 2 => { n with scenes := c.map (·.scenes) }
  | 3 => { n with bindings := c.map (·.bindings) }
  | 4 => { n with panels := c.map (·.panels) }
  | 5 => { n with axes := c.map (·.axes) }
  | 6 => { n with windlass := c.map (·.windlass) }
  | 7 => { n with supply := c.map (·.supply) }
  | _ => { n with limits := c.map (·.limits) }

/-- The commit ends with all nine sections equal (R207). -/
def commitDone (k : Commit) (s : State) : State :=
  notice .commitDone 0 [k.ms]
    { s with nv := { s.nv with mark := true }, dev := { s.dev with commit := none, changed := 0 } }

/-- Step 2 of a commit from the section it stands at: sections that need no write are passed over; the next
one that needs a write is erased and being written; after the last the commit is done. The comparing takes no time,
so a commit with nothing to write is done within COMMIT (the model's choice, log 21). The first argument counts the
sections left. -/
def commitFrom : Nat → Commit → State → State
  | 0, k, s => commitDone k s
  | n + 1, k, s =>
    if s.dev.changed.getLsbD k.sec = false ∧ sectionEqual s.nv s.cfg k.sec = true then
      commitFrom n { k with sec := k.sec + 1 } s
    else { s with nv := s.nv.put none k.sec, dev := { s.dev with commit := some { k with writing := true } } }

/-- COMMIT (R206): its reply is formed as the commit begins. -/
def commitStart (s : State) : State × Ans :=
  if s.committing then (s, Ans.refused .busy)
  else
    ({ s with nv := { s.nv with mark := false }
              dev := { s.dev with commit := some ⟨0, false, [], 0⟩ } }, Ans.ok)

/-- The commit takes up its work, once its reply has been formed; one that was in flight before goes on as it
is. -/
def commitBegin (before : Bool) (s : State) : State :=
  if before then s
  else match s.dev.commit with
    | none => s
    | some k => commitFrom 9 k s

/-- The changed marks of the sections written and verified are cleared. -/
def clearMarks (secs : List Nat) (m : BitVec 9) : BitVec 9 :=
  secs.foldl (fun acc n => acc &&& ~~~(1#9 <<< n)) m

/-- COMMIT_SECTION_DONE: the section being written was read back, equal or not (R206, R207). -/
def sectionDone (equal : Bool) (s : State) : State :=
  match s.dev.commit with
  | none => s
  | some k =>
    if k.writing = false then s
    else if equal then
      let s1 := { s with nv := s.nv.put (some s.cfg) k.sec }
      commitFrom (8 - k.sec) { k with sec := k.sec + 1, writing := false, written := k.written ++ [k.sec] } s1
    else
      notice .commitFailed 0 [k.sec]
        { s with nv := s.nv.put none k.sec
                 dev := { s.dev with commit := none, changed := clearMarks k.written s.dev.changed } }

end Sys2Proof.Machine
end

