-- ==== Sys2Proof/Machine/StartUp.lean ====
section
/-! DEFINITION. Resets and start-up (R208, R210, R211). -/

namespace Sys2Proof.Machine

/-! ### Loading (R208) -/

/-- A section as stored, if it is whole and within its ranges. -/
def sound {α : Type} (ok : α → Bool) (stored : Option α) : Option α := stored.filter ok

/-- The sections that load; an absent one takes its defaults. -/
def Nv.loadable (n : Nv) : Nv :=
  { n with
    general := sound GeneralSec.ok n.general
    channels := sound ChannelsSec.ok n.channels
    scenes := sound scenesOk n.scenes
    bindings := sound bindingsOk n.bindings
    panels := sound PanelSec.ok n.panels
    axes := sound AxesSec.ok n.axes
    windlass := sound WindlassSec.ok n.windlass
    supply := sound SupplySec.ok n.supply
    limits := sound LimitsSec.ok n.limits }

/-- The working copy that a stored copy fills, each section apart from the others (R208). -/
def loadCfg (n : Nv) : Cfg :=
  let l := n.loadable
  let d : Cfg := {}
  { general := l.general.getD d.general
    channels := l.channels.getD d.channels
    scenes := l.scenes.getD d.scenes
    bindings := l.bindings.getD d.bindings
    panels := l.panels.getD d.panels
    axes := l.axes.getD d.axes
    windlass := l.windlass.getD d.windlass
    supply := l.supply.getD d.supply
    limits := l.limits.getD d.limits }

/-- The set of sections that take their defaults, bit n for section n, as STARTED and GET_STATUS carry it (the
model's choice, log 92). -/
def defaultedSet (n : Nv) : Nat :=
  let l := n.loadable
  flagByte [l.general.isNone, l.channels.isNone, l.scenes.isNone, l.bindings.isNone, l.panels.isNone,
    l.axes.isNone, l.windlass.isNone, l.supply.isNone, l.limits.isNone]

/-! ### Reset (R210) -/

/-- A channel's runtime part after a reset: its owner is BEACON on a channel of type BEACON (R18). -/
def freshChan (k : ChCfg) : Channel := { owner := if k.type = .beacon then .beacon else .none }

/-- The inputs after a reset: each pin and the two chain phases keep the level last seen, which is no state of
the part's (log 13); the chain decoder does not run (R73). -/
def freshInputs (i : Inputs) : Inputs :=
  { di := tab 16 fun n => { pin := i.di[n].pin }, chain := { sensor := i.chain.sensor } }

/-- A reset with its cause, and steps 1 and 2 of start-up: all runtime state takes its reset values, the
sections are loaded, and STARTED is given, the first notice in the queue. The nonvolatile memory and the
commands that wait outside stay (R210, R211). -/
def resetWith (cause : ResetCause) (s : State) : State :=
  let cfg := loadCfg s.nv
  notice .started 0 [codeIn resetCauses cause, s.nv.mark.toNat, defaultedSet s.nv]
    { cfg := cfg
      nv := s.nv
      chan := tab 24 fun i => freshChan cfg.channels.ch[i]
      inp := freshInputs s.inp
      dev := { cause := cause, defaulted := defaultedSet s.nv, markFound := s.nv.mark, races := s.dev.races }
      pending := s.pending }

/-! ### The end of start-up (R211 steps 3 to 5) -/

/-- Every digital input in use has settled and every analog input in use has had its first conversion. -/
def State.inputsReady (s : State) : Bool :=
  ((List.finRange 16).all fun n => (s.diCfg n).role == .unused || (s.diRt n).settled) &&
  ((List.finRange 4).all fun n => (s.aiCfg n).role == .unused || (s.aiRt n).converted)

/-- Step 3 is over: the inputs are ready, or 550 ms have passed since the reset. -/
def State.startUpOver (s : State) : Bool :=
  s.starting && (s.inputsReady || reached s.dev.uptime.toNat 550)

/-- BUS_VOLTAGE is absent, or has had no conversion yet: BROWNOUT by R36. -/
def busAtStart (s : State) : State :=
  match s.analogValue .busVoltage with
  | none => if s.budget.held then s else supplySensorLost s
  | some _ => s

/-- Step 4: the axes take their states, the count is restored, the chain decoder starts from the sensor state
that it then sees, with the accumulator at 0 (R73). -/
def startBlocks (s : State) : State :=
  let s1 := restoreCount (axisStartUp offerNow .hatch (axisStartUp offerNow .platform s))
  s1.setChain { s1.inp.chain with running := true, acc := 0 }

/-- Step 5: STARTING ends in STANDALONE; the first evaluation runs, and the start-up list is taken. -/
def endStarting (s : State) : State :=
  drainStartUp (evaluate { s with link := { s.link with device := .standalone, aloneMs := 0 } })

/-- START_UP_INPUTS_SETTLED: steps 4 and 5. -/
def startUpEnd (s : State) : State :=
  if s.startUpOver then endStarting (startBlocks (busAtStart s)) else s

/-- The last byte of a frame has gone (R192, R194, R197): the notice leaves the queue, or the reply is done
with; after that of a RESET the part resets. With nothing in flight the transmitter takes up what waits. -/
def frameSent (s : State) : State :=
  match s.link.sending with
  | none => sendNext s
  | some f =>
    if reached f.ms (lineTime f.bytes.length) = false then s
    else if f.notice then noticeSent s
    else if s.sendingReset then resetWith .resetRequest s
    else replySent s

end Sys2Proof.Machine
end

