-- ==== Sys2Proof/Machine/Replies.lean ====
section
/-! DEFINITION. What the reading requests answer, laid out by R213 (log 15). -/

namespace Sys2Proof.Machine

/-! ### GET_STATUS (R193, R74, R89) -/

/-- A digital input's fields in GET_STATUS. Its validated state is sent as a mark, set when active, in one byte
with the settled and the STUCK mark (the model's choice, log 82). -/
def diStatus (s : State) (n : Fin 16) : List Byte :=
  [byteOf (s.diCfg n).roleCode, byteOf (flagByte [s.validated n, (s.diRt n).settled, (s.diRt n).stuck])]

/-- An analog input's fields in GET_STATUS; its value takes two bytes (the model's choice, log 112). -/
def aiStatus (s : State) (n : Fin 4) : List Byte :=
  byteOf (codeIn aiRoles (s.aiCfg n).role) :: opt16 (s.aiRt n).value ++ [byteOf (s.aiRt n).fault.toNat]

/-- The link's part of GET_STATUS. The family code, the member code and the revision take one byte each (the
model's choice, log 81). -/
def linkStatus (s : State) : List Byte :=
  [byteOf (codeIn devStates s.link.device)] ++ le32 s.dev.uptime.toNat ++
  [byteOf (codeIn resetCauses s.dev.cause), Config.familyCode, Config.memberCode, Config.revisionCode] ++
  le16 s.cfg.general.supervision ++ opt16 (if s.link.device = .linked then s.link.supervision else none) ++
  le16 s.link.enabled.toNat ++ le16 s.link.queue.length ++ [byteOf s.link.overflow.toNat] ++
  le16 s.link.rx.checkFailures ++ le16 s.link.rx.cutFrames ++ le16 s.link.rx.dropped

/-- The vessel state record in GET_STATUS (R89). The anchored field, true or false, is sent as a mark, 1 for true (the
model's choice, log 111). -/
def vesselStatus (s : State) : List Byte :=
  le16 s.vessel.speed ++
  [byteOf (codeIn sources s.vessel.source), byteOf (!s.fresh).toNat, byteOf (codeIn sources s.vessel.active),
   byteOf s.vessel.anchored.toNat, byteOf (codeIn devStates s.link.device)]

/-- The result fields of GET_STATUS. The completion mark and the commit in flight share a byte (R208, R213). The
records of the 16 digital and the 4 analog inputs are sent without a count byte (the model's choice, log 72), and
the set of sections that took their defaults as two bytes, bit n for section n (the model's choice, log 92). -/
def statusBytes (s : State) : List Byte :=
  linkStatus s ++ vesselStatus s ++ ((List.finRange 16).map (diStatus s)).flatten ++
  ((List.finRange 4).map (aiStatus s)).flatten ++ le16 s.usedCells ++ le16 s.dev.defaulted ++
  [byteOf (flagByte [s.dev.markFound, s.committing])] ++ opt8 (s.dev.commit.map (·.sec))

/-- GET_STATUS (R193): taking it clears the overflow flag, whose earlier value it carries. -/
def getStatus (s : State) : State × Ans :=
  ({ s with link := { s.link with overflow := false } }, ⟨.ok, 0, statusBytes s⟩)

/-! ### CHANNEL_GET (R8) -/

/-- A pair channel at level 1000 is held off by its dead-time timer (R8, R14). -/
def State.heldAtFull (s : State) (i : Fin 24) : Bool := s.chan[i].level == 1000 && s.heldOff i

/-- The remaining run time of a pair channel at level 1000. -/
def State.runLeft (s : State) (i : Fin 24) : Option Nat :=
  s.chan[i].runMs.map fun ms => (s.chCfg i).runTime * 1000 - ms

/-- The result fields of CHANNEL_GET. The record's two marks, the open flag and the hold by the dead time, share
the byte at the place of the first (R213, log 15). The class takes one byte (the model's choice, log 112). -/
def channelBytes (i : Fin 24) (s : State) : List Byte :=
  let k := s.chCfg i
  let c := s.chan[i]
  [byteOf (codeIn chTypes k.type), byteOf k.cls] ++ le16 c.level ++ le16 c.duty ++ le16 c.granted ++
  [byteOf (codeIn owners c.owner), byteOf (codeIn chFaults c.fault)] ++ le16 c.retry ++
  [byteOf (flagByte [c.openFlag, s.heldAtFull i])] ++ le16 c.current ++ opt16 (c.fade.map (·.target)) ++
  opt16 (c.fade.map fun f => f.time - f.elapsed) ++ opt32 (s.runLeft i)

/-! ### PLAYER_GET (R58) -/

/-- The result fields of PLAYER_GET. The active entry set and the waiting set are sent in the order in which their
channels joined, that of the scene's list: they are sets, and no rule orders them (log 46). The mark that the
pending slot is empty is three bytes 0xFF, in the place of its slot and its source (the model's choice,
log 64). A step is one byte (the model's choice, log 112). -/
def playerBytes (p : Fin 4) (s : State) : List Byte :=
  let x := s.player p
  [byteOf (codeIn playerStates x.state)] ++ opt8 x.scene ++ [byteOf x.step] ++ le16 x.repeats ++
  [byteOf x.endFade.toNat] ++ counted (x.active.map fun n => [byteOf n]) ++
  counted (x.waiting.map fun n => [byteOf n]) ++ opt32 x.dwell ++ bytes2 x.source.pair ++
  (match x.pendingTrig with
   | none => [0xFF, 0xFF, 0xFF]
   | some t => byteOf t.1 :: bytes2 t.2.pair) ++ [byteOf (codeIn playerOutcomes x.outcome)]

/-! ### BUDGET_GET (R37) -/

/-- A present reservation entry: its holder and its amount. -/
def entryBytes (s : State) (h : ResHolder) : Option (List Byte) :=
  (s.budget.res.get h).map fun a => byteOf (codeIn resHolders h) :: le16 a

/-- The result fields of BUDGET_GET. The two conditions and the hold by R36 share a byte (R213, log 15). The
reservation entries are sent in the order STERN, WINDLASS, EXT1 to EXT4 (the model's choice, log 62). The shedding
factors and the bus voltage take two bytes each (the model's choice, log 112). -/
def budgetBytes (s : State) : List Byte :=
  let e := s.budget.last
  [byteOf (codeIn sources e.source)] ++ le16 e.limit ++ le16 e.margin ++
  counted (resHolders.filterMap (entryBytes s)) ++
  le16 e.reserved ++ le16 e.avail ++ le16 e.c0 ++ le16 e.c1 ++ le16 e.c2 ++ le16 e.c3 ++ le16 e.f1 ++
  le16 e.f2 ++ le16 e.f3 ++ le16 e.rest ++ [byteOf (flagByte [s.budget.budgetOver, s.budget.shedding, s.budget.held]),
    byteOf (codeIn supplyStates s.budget.supply)] ++ opt16 (s.analogValue .busVoltage)

/-! ### AXIS_GET (R116) -/

/-- The code of the open valve: none, then PLAT_OUT, PLAT_IN, HATCH_OUT, HATCH_IN (R92). -/
def valveCode : Option (AxisId × Dir) → Nat
  | none => 0
  | some (a, d) => 1 + 2 * axisIdx a + codeIn dirs d

/-- An axis's fault record; absent, its bytes are all ones (the model's choice, log 87). The detail is one byte (the
model's choice, log 112). -/
def axisFaultBytes : Option AxFaultRec → List Byte
  | none => List.replicate 9 0xFF
  | some f => [byteOf (codeIn axCauses f.cause), byteOf (codeIn axStates f.state)] ++ opt16 f.position ++
      le32 f.runMs ++ [byteOf f.detail]

/-- The pack record with the latch solenoids (R92). -/
def packBytes (s : State) : List Byte :=
  let p := s.stern.pack
  [byteOf (codeIn pumps p.pump)] ++ opt8 (p.axis.map axisIdx) ++ [byteOf (valveCode p.valve)] ++ le16 p.flow ++
  [byteOf (flagByte [s.stern.platform.latchHold, s.stern.hatch.latchHold])] ++
  opt16 (if p.pump = .runOn then some p.runOn else none)

/-- The sequence context (R110); an absent end cause has all ones for its step and its cause (the model's choice,
log 87). -/
def seqBytes (q : Seq) : List Byte :=
  [byteOf (codeIn seqStates q.state)] ++ opt8 (q.kind.map (codeIn seqKinds)) ++ opt8 (q.axis.map axisIdx) ++
  bytes3 q.holder.triple ++
  match q.ended with
  | none => [0xFF, 0xFF, 0xFF]
  | some e => byteOf e.1 :: bytes2 e.2.pair

/-- The result fields of AXIS_GET; the cooldown is in s, rounded up (log 23). Of an axis at rest the phase timer is
that of its last phase (the model's choice, log 74). -/
def axisBytes (a : AxisId) (s : State) : List Byte :=
  let x := s.axis a
  [byteOf (codeIn axStates x.state)] ++ opt16 (s.position a) ++ le16 x.target ++ bytes3 x.holder.triple ++
  le32 x.phaseMs ++ le32 x.runMs ++ le16 ((x.cooldown.getD 0 + 999) / 1000) ++ axisFaultBytes x.fault ++
  packBytes s ++ seqBytes s.stern.seq

/-! ### WINDLASS_GET (R144) -/

/-- The windlass's fault record; absent, its bytes are all ones (the model's choice, log 87). The detail is one byte
(the model's choice, log 112). -/
def wlFaultBytes : Option WlFaultRec → List Byte
  | none => List.replicate 7 0xFF
  | some f => [byteOf (codeIn wlCauses f.cause), byteOf (codeIn wlStates f.state)] ++ le16 f.count ++
      opt16 f.current ++ [byteOf f.detail]

/-- The result fields of WINDLASS_GET. The three marks, the anchored flag, that a creep burst runs, and the
conflict latch, share the byte at the place of the first (R213, log 15). The chain length takes two bytes (the
model's choice, log 112). The jog phase is sent as ON or OFF alone,
without the time spent in it (the model's choice, log 69). -/
def windlassBytes (s : State) : List Byte :=
  let w := s.wl
  let jog (n : Nat) : Option Nat := if w.state = .jogging then some n else none
  [byteOf (codeIn wlStates w.state)] ++ bytes3 w.holder.triple ++ opt8 (w.mode.map (codeIn wlModes)) ++
  opt16 w.target ++ opt8 (jog (!w.jogOn).toNat) ++ opt16 (jog w.jogs) ++ le16 w.count ++
  [byteOf (codeIn countStatuses w.status)] ++ le16 s.chainLength ++ [byteOf (flagByte [s.vessel.anchored, w.creep.isSome, w.conflict])] ++
  le16 w.disagree ++ le16 w.errors ++
  (match w.creep with
   | none => le16 65535
   | some b => leI16 b.1) ++
  le32 w.heat ++ le32 s.cfg.limits.tMax ++
  opt32 (if w.state = .lockout then some (s.cfg.limits.tMax / 2) else none) ++
  counted (w.holds.map fun h => bytes4 h.quad) ++ opt16 s.motorCurrent ++
  [byteOf (flagByte [w.up, w.down, w.brakeFree])] ++ wlFaultBytes w.faultRec

end Sys2Proof.Machine
end

