-- ==== Sys2Proof/Machine/Requests.lean ====
section
/-! DEFINITION. The requests of the catalogue (R190, R215): what a good frame asks, and the meaning of each
request. Each meaning hands `takeRequest` the kind, the LENGTH it allows and what its owning block does. -/

namespace Sys2Proof.Machine

/-- A machine outcome: every command answers a next state. -/
abbrev Out := Host.Outcome State Fault Refusal

/-! ### What a good frame asks (R187, R215, R216) -/

/-- A SCENE_WRITE first part from its payload (R216). -/
def scenePartOf (p : List Byte) : ScenePart :=
  let l := rd8 p 13
  let m := rd8 p 3
  { part := rd8 p 0, slot := rd8 p 1, kind := rd8 p 2, m := m, n := rd8 p 4, fade := rd16 p 5,
    dwell := rd32 p 7, repeats := rd8 p 11, endCode := rd8 p 12, nameLen := l,
    name := (p.drop 14).take l, chans := ((p.drop (14 + l)).take m).map (·.toNat),
    levels := words16 (p.drop (14 + l + m)) }

/-- A binding record from its payload (R216). -/
def bindingPartOf (p : List Byte) : BindingPart :=
  { index := rd8 p 0, flags := rd8 p 1, kind := rd8 p 2, match1 := rd16 p 3, match2 := rd16 p 5,
    action := rd8 p 7, busy := rd8 p 8, p1 := rd8 p 9, p2 := rdI16 p 10, p3 := rd16 p 12, zero := rd8 p 14 }

/-- The command of WINDLASS_COMMAND by its action code: LOWER 0, HOIST 1, LOWER_TO 2, HOIST_HOME 3, STOP 4; an
unknown code is refused where LOWER is taken (log 32). -/
def windlassCommandOf (q : Req) (action target : Nat) : Instr :=
  if action = 1 then .windlassCommandHoist q action target
  else if action = 2 then .windlassCommandLowerTo q action target
  else if action = 3 then .windlassCommandHoistHome q action target
  else if action = 4 then .windlassCommandStop q action target
  else .windlassCommandLower q action target

/-- The command of a kind of R215 below 0x10. A SCENE_WRITE whose part byte is neither 0 nor 1 has no layout of
its own and is taken as a first part (the model's choice, log 63). -/
def lowKind (k : Nat) (q : Req) (p : List Byte) : Option Instr :=
  match k with
  | 0x01 => some (.getStatus q)
  | 0x02 => some (.setVesselData q (rd16 p 0) (rd8 p 2))
  | 0x03 => some (.reset q)
  | 0x04 => some (.channelSet q (rd8 p 0) (rd16 p 1) (rd16 p 3))
  | 0x05 => some (.channelGet q (rd8 p 0))
  | 0x06 => some (.channelClearFault q (rd8 p 0))
  | 0x07 => some (if rd8 p 0 = 1 then .sceneWriteContinuation q (rd8 p 1) (rd8 p 2) (words16 (p.drop 3))
      else .sceneWriteFirstPart q (scenePartOf p))
  | 0x08 => some (.sceneRead q (rd8 p 0) (rd8 p 1))
  | 0x09 => some (.sceneDelete q (rd8 p 0))
  | 0x0A => some (.playerStart q (rd8 p 0) (rd8 p 1) (rd8 p 2))
  | 0x0B => some (if rd8 p 1 = 1 then .playerStopAbort q (rd8 p 0) (rd8 p 1)
      else .playerStopFinish q (rd8 p 0) (rd8 p 1))
  | 0x0C => some (.playerGet q (rd8 p 0))
  | 0x0D => some (.budgetGet q)
  | 0x0E => some (.reserve q (rd8 p 0) (rd16 p 1))
  | 0x0F => some (.release q (rd8 p 0))
  | _ => none

/-- The command of a kind of R215 from 0x10 on. -/
def highKind (k : Nat) (q : Req) (p : List Byte) : Option Instr :=
  match k with
  | 0x10 => some (.axisMove q (rd8 p 0) (rd16 p 1))
  | 0x11 => some (.axisStop q (rd8 p 0))
  | 0x12 => some (.axisGet q (rd8 p 0))
  | 0x13 => some (.axisClearFault q (rd8 p 0))
  | 0x14 => some (.sequenceStart q (rd8 p 0))
  | 0x15 => some (windlassCommandOf q (rd8 p 0) (rd16 p 1))
  | 0x16 => some (.windlassGet q)
  | 0x17 => some (.windlassSetCount q (rd16 p 0))
  | 0x18 => some (.windlassClearFault q)
  | 0x19 => some (.panelList q)
  | 0x1A => some (.panelForget q (rd8 p 0))
  | 0x1B => some (.indicatorSet q (rd8 p 0) (rd8 p 1) (rd8 p 2) (rd8 p 3))
  | 0x1C => some (.bindingWrite q (bindingPartOf p))
  | 0x1D => some (.bindingRead q (rd8 p 0))
  | 0x1E => some (.configWrite q (rd8 p 0) (rd8 p 1) (p.drop 2))
  | 0x1F => some (.configRead q (rd8 p 0) (rd8 p 1))
  | 0x20 => some (.commit q)
  | 0x21 => some (.noticeEnable q (rd16 p 0))
  | _ => none

/-- A KIND is in the catalogue (R190). -/
def knownKind (k : Byte) : Bool := 0x01 ≤ k.toNat && k.toNat ≤ 0x21

/-- The command that takes the request of a good frame (R190). -/
def takeOf (f : Frame) : Instr :=
  let q : Req := ⟨f.tag, f.payload.length⟩
  ((lowKind f.kind.toNat q f.payload).or (highKind f.kind.toNat q f.payload)).getD
    (.requestUnknownKind q f.kind)

/-! ### What the owning blocks do -/

/-- A request that only reads. -/
def reads (f : State → Ans) (s : State) : State × Ans := (s, f s)

/-- The outcome of a start as a request's (R114, R143). -/
def answered (r : StartRes × State) : State × Ans := (r.2, r.1.ans)

/-- Act on a channel by its index; above 23 it is out of range (R8). -/
def onChannel (n : Nat) (f : Fin 24 → State → State × Ans) (s : State) : State × Ans :=
  if h : n < 24 then f ⟨n, h⟩ s else (s, Ans.refused .outOfRange)

/-- Act on a player by its index; above 3 it is out of range (R57, R58). -/
def onPlayer (n : Nat) (f : Fin 4 → State → State × Ans) (s : State) : State × Ans :=
  if h : n < 4 then f ⟨n, h⟩ s else (s, Ans.refused .outOfRange)

/-- Act on an axis by its code (R114). -/
def onAxis (n : Nat) (f : AxisId → State → State × Ans) (s : State) : State × Ans :=
  match axisIds[n]? with
  | some a => f a s
  | none => (s, Ans.refused .outOfRange)

/-- The changes of the terms' inputs that a SET_VESSEL_DATA makes (R76 step 4, R84, R87). -/
def vesselChanges (old s : State) : List Change :=
  (if old.vessel.speed = s.vessel.speed then [] else [.speed]) ++
  (if old.sourceIfFresh = s.sourceIfFresh then [] else [.source])

/-- SET_VESSEL_DATA (R76). -/
def setVesselData (speed source : Nat) (s : State) : State × Ans :=
  match sources[source]? with
  | none => (s, Ans.refused .outOfRange)
  | some src =>
    let s1 := takeVesselData speed src s
    (recheck offerNow (vesselChanges s s1) s1, Ans.ok)

/-- RESET (R194): once its reply is formed nothing more is taken. -/
def resetAsked (s : State) : State × Ans := ({ s with link := { s.link with resetReply := true } }, Ans.ok)

/-- CHANNEL_SET (R8). -/
def channelSet (level fade : Nat) (i : Fin 24) (s : State) : State × Ans :=
  if s.chan[i].owner = .beacon then (s, Ans.refused .inUse)
  else (settlePlayers offerNow (setByParty i .hostDirect level fade s), Ans.ok)

/-- CHANNEL_CLEAR_FAULT (R12). -/
def channelClear (i : Fin 24) (s : State) : State × Ans :=
  if s.chan[i].fault = .latched then (clearLatched i s, Ans.ok) else (s, Ans.refused .notFaulted)

/-- PLAYER_START (R57). -/
def playerStart (slot busy : Nat) (p : Fin 4) (s : State) : State × Ans :=
  match busyModes[busy]? with
  | none => (s, Ans.refused .outOfRange)
  | some m =>
    if 64 ≤ slot then (s, Ans.refused .outOfRange)
    else if (s.sceneAt slot).isNone then (s, Ans.refused .notFound)
    else if (s.player p).state ≠ .idle ∧ m = .ignore then (s, Ans.refused .busy)
    else (settlePlayers offerNow (trigger p slot m .host s), Ans.ok)

/-- PLAYER_STOP of a kind (R53, R54, R58). -/
def playerStop (kind : Nat) (p : Fin 4) (s : State) : State × Ans :=
  (settlePlayers offerNow (stopPlayer p kind s), Ans.ok)

/-- The EXT holder of a code: the host names no other (R31). -/
def extHolder (n : Nat) : Option ResHolder := if n < 2 then none else resHolders[n]?

/-- RESERVE (R31). -/
def reserve (holder amount : Nat) (s : State) : State × Ans :=
  match extHolder holder with
  | none => (s, Ans.refused .outOfRange)
  | some h =>
    if 4000 < amount then (s, Ans.refused .outOfRange)
    else match reserveFor h amount s with
      | .error c => (s, Ans.refused c)
      | .ok s1 => (s1, Ans.ok)

/-- RELEASE (R31). -/
def release (holder : Nat) (s : State) : State × Ans :=
  match extHolder holder with
  | none => (s, Ans.refused .outOfRange)
  | some h => (freeRes h s, Ans.ok)

/-- AXIS_MOVE (R94, R114): the host asks the hatch for 0 or 1000 alone. -/
def axisMove (target : Nat) (a : AxisId) (s : State) : State × Ans :=
  if a = .hatch ∧ target ≠ 0 ∧ target ≠ 1000 then (s, Ans.refused .outOfRange)
  else answered (commandMove offerNow a target .host s)

/-- AXIS_STOP (R114). -/
def axisStop (which : Nat) (s : State) : State × Ans :=
  if 2 < which then (s, Ans.refused .outOfRange) else (commandStop offerNow which s, Ans.ok)

/-- SEQUENCE_START (R110). -/
def sequenceStart (kind : Nat) (s : State) : State × Ans :=
  match seqKinds[kind]? with
  | none => (s, Ans.refused .outOfRange)
  | some k => answered (startSequence offerNow k .host s)

/-- A start by WINDLASS_COMMAND (R143). -/
def windlassRun (r : Run) (s : State) : State × Ans := answered (startWindlass offerNow r .host s)

/-- LOWER; a code with no action, FREE_FALL among them, is out of range (R143). -/
def commandLower (action : Nat) (s : State) : State × Ans :=
  if action = 0 then windlassRun .lower s else (s, Ans.refused .outOfRange)
/-- HOIST. -/
def commandHoist (action : Nat) (s : State) : State × Ans :=
  if action = 1 then windlassRun .hoist s else (s, Ans.refused .outOfRange)
/-- LOWER_TO with its target count. -/
def commandLowerTo (action target : Nat) (s : State) : State × Ans :=
  if action = 2 ∧ 1 ≤ target ∧ target ≤ 9999 then windlassRun (.lowerTo target) s
  else (s, Ans.refused .outOfRange)
/-- HOIST_HOME. -/
def commandHoistHome (action : Nat) (s : State) : State × Ans :=
  if action = 3 then windlassRun .hoistHome s else (s, Ans.refused .outOfRange)
/-- STOP (R132). -/
def commandWindlassStop (action : Nat) (s : State) : State × Ans :=
  if action = 4 then (stopWindlass offerNow .hostStop s, Ans.ok) else (s, Ans.refused .outOfRange)

/-- PLAYER_STOP with FINISH; a kind with no name is out of range (R58). -/
def commandFinish (player kind : Nat) (s : State) : State × Ans :=
  if kind = 0 then onPlayer player (playerStop 0) s else (s, Ans.refused .outOfRange)
/-- PLAYER_STOP with ABORT. -/
def commandAbort (player kind : Nat) (s : State) : State × Ans :=
  if kind = 1 then onPlayer player (playerStop 1) s else (s, Ans.refused .outOfRange)

/-! ### Lengths that vary (R215, R216) -/

/-- A SCENE_WRITE first part has LENGTH 14 + L + M + 2rM, within 15..240. -/
def firstPartLengthOk (len : Nat) (p : ScenePart) : Bool :=
  15 ≤ len && len ≤ 240 && p.name.length == p.nameLen && p.chans.length == p.m &&
  p.levels.length % p.m == 0 && len == 14 + p.nameLen + p.m + 2 * p.levels.length

/-- A SCENE_WRITE continuation part has LENGTH 5..240, and the levels that LENGTH holds; whether they are whole
rows is judged by check 2 of R42. -/
def continuationLengthOk (len : Nat) (levels : List Nat) : Bool :=
  5 ≤ len && len ≤ 240 && levels.length == (len - 3) / 2

/-! ### The meanings -/

/-- REQUEST_UNKNOWN_KIND: check 1 of R190. A kind of the catalogue is another row's (log 3). -/
def execRequestUnknownKind (q : Req) (kind : Byte) (s : State) : Out :=
  .next (if s.link.resetReply || knownKind kind then s
    else formReply kind q.tag (Ans.refused .unknownKind) (leaveList kind q.tag s))
/-- GET_STATUS (R193). -/
def execGetStatus (q : Req) (s : State) : Out := .next (takeFixed 0x01 q 0 getStatus s)
/-- SET_VESSEL_DATA (R76). -/
def execSetVesselData (q : Req) (speed source : Nat) (s : State) : Out :=
  .next (takeFixed 0x02 q 3 (setVesselData speed source) s)
/-- RESET (R194). -/
def execReset (q : Req) (s : State) : Out := .next (takeFixed 0x03 q 0 resetAsked s)
/-- CHANNEL_SET (R8). -/
def execChannelSet (q : Req) (ch level fade : Nat) (s : State) : Out :=
  .next (takeFixed 0x04 q 5 (onChannel ch (channelSet level fade)) s)
/-- CHANNEL_GET (R8). -/
def execChannelGet (q : Req) (ch : Nat) (s : State) : Out :=
  .next (takeFixed 0x05 q 1 (onChannel ch fun i => reads fun s => ⟨.ok, 0, channelBytes i s⟩) s)
/-- CHANNEL_CLEAR_FAULT (R12). -/
def execChannelClearFault (q : Req) (ch : Nat) (s : State) : Out :=
  .next (takeFixed 0x06 q 1 (onChannel ch channelClear) s)
/-- SCENE_WRITE, first part (R41). -/
def execSceneWriteFirstPart (q : Req) (p : ScenePart) (s : State) : Out :=
  .next (takeRequest 0x07 q (firstPartLengthOk q.len p) partRefused (sceneFirstPart p) s)
/-- SCENE_WRITE, continuation part (R42). -/
def execSceneWriteContinuation (q : Req) (slot first : Nat) (levels : List Nat) (s : State) : Out :=
  .next (takeRequest 0x07 q (continuationLengthOk q.len levels) partRefused
    (sceneMoreRows q.len slot first levels) s)
/-- SCENE_READ (R44). -/
def execSceneRead (q : Req) (slot first : Nat) (s : State) : Out :=
  .next (takeFixed 0x08 q 2 (reads (sceneReadAns slot first)) s)
/-- SCENE_DELETE (R45). -/
def execSceneDelete (q : Req) (slot : Nat) (s : State) : Out :=
  .next (takeFixed 0x09 q 1 (sceneDelete slot) s)
/-- PLAYER_START (R57). -/
def execPlayerStart (q : Req) (player slot busy : Nat) (s : State) : Out :=
  .next (takeFixed 0x0A q 3 (onPlayer player (playerStart slot busy)) s)
/-- PLAYER_STOP with FINISH (R53, R58). -/
def execPlayerStopFinish (q : Req) (player kind : Nat) (s : State) : Out :=
  .next (takeFixed 0x0B q 2 (commandFinish player kind) s)
/-- PLAYER_STOP with ABORT (R54, R58). -/
def execPlayerStopAbort (q : Req) (player kind : Nat) (s : State) : Out :=
  .next (takeFixed 0x0B q 2 (commandAbort player kind) s)
/-- PLAYER_GET (R58). -/
def execPlayerGet (q : Req) (player : Nat) (s : State) : Out :=
  .next (takeFixed 0x0C q 1 (onPlayer player fun p => reads fun s => ⟨.ok, 0, playerBytes p s⟩) s)
/-- BUDGET_GET (R37). -/
def execBudgetGet (q : Req) (s : State) : Out :=
  .next (takeFixed 0x0D q 0 (reads fun s => ⟨.ok, 0, budgetBytes s⟩) s)
/-- RESERVE (R31). -/
def execReserve (q : Req) (holder amount : Nat) (s : State) : Out :=
  .next (takeFixed 0x0E q 3 (reserve holder amount) s)
/-- RELEASE (R31). -/
def execRelease (q : Req) (holder : Nat) (s : State) : Out :=
  .next (takeFixed 0x0F q 1 (release holder) s)
/-- AXIS_MOVE (R114). -/
def execAxisMove (q : Req) (axis target : Nat) (s : State) : Out :=
  .next (takeFixed 0x10 q 3 (onAxis axis (axisMove target)) s)
/-- AXIS_STOP (R114). -/
def execAxisStop (q : Req) (which : Nat) (s : State) : Out := .next (takeFixed 0x11 q 1 (axisStop which) s)
/-- AXIS_GET (R116). -/
def execAxisGet (q : Req) (axis : Nat) (s : State) : Out :=
  .next (takeFixed 0x12 q 1 (onAxis axis fun a => reads fun s => ⟨.ok, 0, axisBytes a s⟩) s)
/-- AXIS_CLEAR_FAULT (R115). -/
def execAxisClearFault (q : Req) (axis : Nat) (s : State) : Out :=
  .next (takeFixed 0x13 q 1 (onAxis axis clearAxisFault) s)
/-- SEQUENCE_START (R110). -/
def execSequenceStart (q : Req) (kind : Nat) (s : State) : Out :=
  .next (takeFixed 0x14 q 1 (sequenceStart kind) s)
/-- WINDLASS_COMMAND LOWER, and every code with no action (R143). -/
def execWindlassCommandLower (q : Req) (action _target : Nat) (s : State) : Out :=
  .next (takeFixed 0x15 q 3 (commandLower action) s)
/-- WINDLASS_COMMAND HOIST (R143). -/
def execWindlassCommandHoist (q : Req) (action _target : Nat) (s : State) : Out :=
  .next (takeFixed 0x15 q 3 (commandHoist action) s)
/-- WINDLASS_COMMAND LOWER_TO (R143). -/
def execWindlassCommandLowerTo (q : Req) (action target : Nat) (s : State) : Out :=
  .next (takeFixed 0x15 q 3 (commandLowerTo action target) s)
/-- WINDLASS_COMMAND HOIST_HOME (R143). -/
def execWindlassCommandHoistHome (q : Req) (action _target : Nat) (s : State) : Out :=
  .next (takeFixed 0x15 q 3 (commandHoistHome action) s)
/-- WINDLASS_COMMAND STOP (R132, R143). -/
def execWindlassCommandStop (q : Req) (action _target : Nat) (s : State) : Out :=
  .next (takeFixed 0x15 q 3 (commandWindlassStop action) s)
/-- WINDLASS_GET (R144). -/
def execWindlassGet (q : Req) (s : State) : Out :=
  .next (takeFixed 0x16 q 0 (reads fun s => ⟨.ok, 0, windlassBytes s⟩) s)
/-- WINDLASS_SET_COUNT (R144). -/
def execWindlassSetCount (q : Req) (count : Nat) (s : State) : Out :=
  .next (takeFixed 0x17 q 2 (setCount offerNow count) s)
/-- WINDLASS_CLEAR_FAULT (R144). -/
def execWindlassClearFault (q : Req) (s : State) : Out :=
  .next (takeFixed 0x18 q 0 clearWindlassFault s)
/-- PANEL_LIST (R168). -/
def execPanelList (q : Req) (s : State) : Out := .next (takeFixed 0x19 q 0 (reads panelListAns) s)
/-- PANEL_FORGET (R160). -/
def execPanelForget (q : Req) (address : Nat) (s : State) : Out :=
  .next (takeFixed 0x1A q 1 (panelForget offerNow address) s)
/-- INDICATOR_SET (R184). -/
def execIndicatorSet (q : Req) (address key mode colour : Nat) (s : State) : Out :=
  .next (takeFixed 0x1B q 4 (indicatorSet address key mode colour) s)
/-- BINDING_WRITE (R170). -/
def execBindingWrite (q : Req) (b : BindingPart) (s : State) : Out :=
  .next (takeFixed 0x1C q 15 (bindingWrite b) s)
/-- BINDING_READ (R180). -/
def execBindingRead (q : Req) (index : Nat) (s : State) : Out :=
  .next (takeFixed 0x1D q 1 (reads (bindingReadAns index)) s)
/-- CONFIG_WRITE (R204). -/
def execConfigWrite (q : Req) (sec item : Nat) (value : List Byte) (s : State) : Out :=
  .next (takeRequest 0x1E q (configLengthOk q.len sec item) plainRefusal
    (configWrite offerNow sec item value) s)
/-- CONFIG_READ (R204). -/
def execConfigRead (q : Req) (sec item : Nat) (s : State) : Out :=
  .next (takeFixed 0x1F q 2 (reads (configReadAns sec item)) s)
/-- COMMIT (R206): the commit runs once its reply has been formed. -/
def execCommit (q : Req) (s : State) : Out := .next (commitBegin s.committing (takeFixed 0x20 q 0 commitStart s))
/-- NOTICE_ENABLE (R198). -/
def execNoticeEnable (q : Req) (set : Nat) (s : State) : Out :=
  .next (takeFixed 0x21 q 2 (noticeEnable set) s)

end Sys2Proof.Machine
end

