-- ==== Sys2Proof/Machine/Events.lean ====
section
/-! DEFINITION. The meaning of each event: what the outside shows, and what a timer's end brings. An event
that names the end of a timer changes nothing while that timer has not ended (log 3). -/

namespace Sys2Proof.Machine

/-! ### Reset and start-up -/

/-- POWER_ON (R210). -/
def execPowerOn (s : State) : Out := .next (resetWith .powerOn s)
/-- SUPPLY_DIP (R210). -/
def execSupplyDip (s : State) : Out := .next (resetWith .supplyDip s)
/-- START_UP_INPUTS_SETTLED (R211). -/
def execStartUpInputsSettled (s : State) : Out := .next (startUpEnd s)

/-! ### The command link -/

/-- GOOD_FRAME (R188, R189, R200, R201). -/
def execGoodFrame (bytes : List Byte) (s : State) : Out := .next (goodFrame offerNow bytes s)
/-- FRAME_CHECK_FAILED (R188). -/
def execFrameCheckFailed (bytes : List Byte) (s : State) : Out := .next (frameCheckFailed bytes s)
/-- FRAME_CUT (R188). -/
def execFrameCut (bytes : List Byte) (cause : CutCause) (s : State) : Out := .next (frameCut bytes cause s)
/-- SUPERVISION_EXPIRY (R201). -/
def execSupervisionExpiry (s : State) : Out := .next (supervisionExpires offerNow s)
/-- REPLY_OR_NOTICE_SENT (R192, R197). -/
def execReplyOrNoticeSent (s : State) : Out := .next (frameSent s)
/-- COMMIT_SECTION_DONE (R206, R207). -/
def execCommitSectionDone (equal : Bool) (s : State) : Out := .next (sectionDone equal s)

/-! ### Channels and players -/

/-- WRITE_LAPSED (R43). -/
def execWriteLapsed (s : State) : Out := .next (assemblyLapses s)
/-- FADE_STEP (R5, R49). -/
def execFadeStep (ch : Fin 24) (s : State) : Out := .next (settlePlayers offerNow (fadeStep ch s))
/-- DWELL_END (R51). -/
def execDwellEnd (p : Fin 4) (s : State) : Out := .next (settlePlayers offerNow (dwellEnds p s))
/-- CURRENT_CONVERSION (R10, R70). -/
def execCurrentConversion (ch : Fin 24) (raw : Nat) (s : State) : Out := .next (currentConversion ch raw s)
/-- SHORT_CIRCUIT_REPORT (R10). -/
def execShortCircuitReport (ch : Fin 24) (s : State) : Out := .next (shortReport ch s)
/-- CHANNEL_RETRY (R11). -/
def execChannelRetry (ch : Fin 24) (s : State) : Out := .next (channelRetry ch s)
/-- TRIP_SERIES_QUIET (R11). -/
def execTripSeriesQuiet (ch : Fin 24) (s : State) : Out := .next (tripSeriesQuiet ch s)
/-- OPEN_LOAD (R13). -/
def execOpenLoad (ch : Fin 24) (s : State) : Out := .next (openLoad ch s)
/-- LOAD_RESTORED (R13). -/
def execLoadRestored (ch : Fin 24) (s : State) : Out := .next (loadRestored ch s)
/-- PAIR_DEAD_TIME_END (R14). -/
def execPairDeadTimeEnd (ch : Fin 24) (s : State) : Out := .next (pairDeadTimeEnd ch s)
/-- PAIR_TIMEOUT (R15). -/
def execPairTimeout (ch : Fin 24) (s : State) : Out := .next (pairTimeout ch s)
/-- BEACON_BLINK_HALF (R16). -/
def execBeaconBlinkHalf (s : State) : Out := .next (beaconHalf s)
/-- BEACON_STRETCH_END (R17). -/
def execBeaconStretchEnd (s : State) : Out := .next (beaconStretchEnd s)

/-! ### The supply -/

/-- SUPPLY_TO_BROWNOUT (R33). -/
def execSupplyToBrownout (s : State) : Out := .next (supplyToBrownout s)
/-- STATE_NORMAL (R33). -/
def execStateNormal (s : State) : Out := .next (supplyToNormal s)
/-- STATE_CRITICAL (R35). -/
def execStateCritical (s : State) : Out := .next (supplyToCritical offerNow s)

/-! ### Inputs -/

/-- LEVEL_FILTER_CHANGE (R62, R65). -/
def execLevelFilterChange (n : Fin 16) (pin : Bool) (run : Nat) (s : State) : Out :=
  .next (levelFilterChange offerNow n pin run s)
/-- INPUT_SETTLED (R62, R64). -/
def execInputSettled (n : Fin 16) (run : Nat) (s : State) : Out := .next (inputSettled n run s)
/-- STUCK (R63). -/
def execStuck (n : Fin 16) (s : State) : Out := .next (inputStuck offerNow n s)
/-- INPUT_PULSE (R64). -/
def execInputPulse (n : Fin 16) (run : Nat) (s : State) : Out := .next (inputPulse offerNow n run s)
/-- PULSE_STUCK (R64). -/
def execPulseStuck (n : Fin 16) (width : Nat) (s : State) : Out := .next (pulseStuck n width s)
/-- ANALOG_CONVERSION (R68, R69). -/
def execAnalogConversion (n : Fin 4) (raw : Nat) (s : State) : Out :=
  .next (analogConversion offerNow n raw s)
/-- SENSOR_OK (R69). -/
def execSensorOk (n : Fin 4) (raw : Nat) (s : State) : Out := .next (sensorOk offerNow n raw s)
/-- CHAIN_SENSOR_STATE_CHANGE (R71, R72, R121). -/
def execChainSensorStateChange (a b : Bool) (s : State) : Out := .next (chainChange offerNow a b s)
/-- STALENESS_TIMER_EXPIRY (R77). -/
def execStalenessTimerExpiry (s : State) : Out := .next (stalenessExpires s)

/-! ### Stern motion -/

/-- UNLATCH_TIMEOUT (R97). -/
def execUnlatchTimeout (a : AxisId) (s : State) : Out := .next (unlatchTimeout offerNow a s)
/-- PUMP_LEAD_END (R98). -/
def execPumpLeadEnd (s : State) : Out := .next (pumpLeadEnd s)
/-- RUN_ON_END (R99). -/
def execRunOnEnd (s : State) : Out := .next (runOnEnd s)
/-- LATCH_TIMEOUT (R100). -/
def execLatchTimeout (a : AxisId) (s : State) : Out := .next (latchTimeout offerNow a s)
/-- RUN_TIMEOUT (R101). -/
def execRunTimeout (a : AxisId) (s : State) : Out := .next (runTimeout offerNow a s)
/-- COOLDOWN_END (R101). -/
def execCooldownEnd (a : AxisId) (s : State) : Out := .next (cooldownOver a s)
/-- NO_PROGRESS (R102). -/
def execNoProgress (a : AxisId) (s : State) : Out := .next (noProgress offerNow a s)

/-! ### The windlass -/

/-- BRAKING_END (R133). -/
def execBrakingEnd (s : State) : Out := .next (brakingOver offerNow s)
/-- BRAKE_FREE_DELAY_END (R119). -/
def execBrakeFreeDelayEnd (s : State) : Out := .next (brakeFreeOff s)
/-- JOG_ON_END (R130). -/
def execJogOnEnd (s : State) : Out := .next (jogOnEnd s)
/-- JOG_OFF_END (R130). -/
def execJogOffEnd (s : State) : Out := .next (jogOffEnd offerNow s)
/-- DISAGREEMENT_QUIET (R135). -/
def execDisagreementQuiet (s : State) : Out := .next (disagreementQuiet s)
/-- CREEP_END (R136). -/
def execCreepEnd (s : State) : Out := .next (creepOver s)
/-- STALL (R137). -/
def execStall (s : State) : Out := .next (stallOver offerNow s)
/-- THERMAL_LOCKOUT (R138). -/
def execThermalLockout (s : State) : Out := .next (thermalLockout offerNow s)
/-- LOCKOUT_END (R138). -/
def execLockoutEnd (s : State) : Out := .next (lockoutOver offerNow s)
/-- COUNT_CELL_WRITE_DONE (R209). -/
def execCountCellWriteDone (s : State) : Out := .next (cellWriteDone s)

/-! ### The panel bus -/

/-- SLOT_START (R157, R158). -/
def execSlotStart (s : State) : Out := .next (slotStart s)
/-- CAPABILITY (R150, R153, R218). -/
def execCapability (frame : List Byte) (s : State) : Out := .next (takeAnswer offerNow .capability frame s)
/-- SHORT (R150, R153, R218). -/
def execShort (frame : List Byte) (s : State) : Out := .next (takeAnswer offerNow .short frame s)
/-- ACK (R152, R218). -/
def execAck (frame : List Byte) (s : State) : Out := .next (takeAnswer offerNow .ack frame s)
/-- KEYS (R155, R161, R218). -/
def execKeys (frame : List Byte) (s : State) : Out := .next (takeAnswer offerNow .keys frame s)
/-- MISSED_ANSWER (R147, R155). -/
def execMissedAnswer (s : State) : Out := .next (answerMissed offerNow s)
/-- DEADMAN (R166). -/
def execDeadman (panel : Fin 32) (key : Fin 16) (s : State) : Out :=
  .next (deadmanExpires offerNow panel key s)
/-- FLASH_END (R183). -/
def execFlashEnd (panel : Fin 32) (key : Fin 16) (s : State) : Out := .next (flashEnds panel key s)

end Sys2Proof.Machine
end

