-- ==== Sys2Proof/Machine/Dispatch.lean ====
section
/-! DEFINITION. The arms of exec: one direct call of a meaning per command. -/

namespace Sys2Proof.Machine

/-- A command's effect on everything but the queue. -/
def exec (i : Instr) (s : State) : Host.Outcome State Fault Refusal :=
  match i with
  | .powerOn => Sys2Proof.Machine.execPowerOn s
  | .supplyDip => Sys2Proof.Machine.execSupplyDip s
  | .startUpInputsSettled => Sys2Proof.Machine.execStartUpInputsSettled s
  | .goodFrame bytes => Sys2Proof.Machine.execGoodFrame bytes s
  | .supervisionExpiry => Sys2Proof.Machine.execSupervisionExpiry s
  | .replyOrNoticeSent => Sys2Proof.Machine.execReplyOrNoticeSent s
  | .requestUnknownKind q kind => Sys2Proof.Machine.execRequestUnknownKind q kind s
  | .getStatus q => Sys2Proof.Machine.execGetStatus q s
  | .setVesselData q speed source => Sys2Proof.Machine.execSetVesselData q speed source s
  | .reset q => Sys2Proof.Machine.execReset q s
  | .channelSet q ch level fade => Sys2Proof.Machine.execChannelSet q ch level fade s
  | .channelGet q ch => Sys2Proof.Machine.execChannelGet q ch s
  | .channelClearFault q ch => Sys2Proof.Machine.execChannelClearFault q ch s
  | .sceneWriteFirstPart q p => Sys2Proof.Machine.execSceneWriteFirstPart q p s
  | .sceneWriteContinuation q slot first levels => Sys2Proof.Machine.execSceneWriteContinuation q slot first levels s
  | .writeLapsed => Sys2Proof.Machine.execWriteLapsed s
  | .sceneRead q slot first => Sys2Proof.Machine.execSceneRead q slot first s
  | .sceneDelete q slot => Sys2Proof.Machine.execSceneDelete q slot s
  | .playerStart q player slot busy => Sys2Proof.Machine.execPlayerStart q player slot busy s
  | .playerStopFinish q player kind => Sys2Proof.Machine.execPlayerStopFinish q player kind s
  | .playerStopAbort q player kind => Sys2Proof.Machine.execPlayerStopAbort q player kind s
  | .playerGet q player => Sys2Proof.Machine.execPlayerGet q player s
  | .budgetGet q => Sys2Proof.Machine.execBudgetGet q s
  | .reserve q holder amount => Sys2Proof.Machine.execReserve q holder amount s
  | .release q holder => Sys2Proof.Machine.execRelease q holder s
  | .axisMove q axis target => Sys2Proof.Machine.execAxisMove q axis target s
  | .axisStop q which => Sys2Proof.Machine.execAxisStop q which s
  | .axisGet q axis => Sys2Proof.Machine.execAxisGet q axis s
  | .axisClearFault q axis => Sys2Proof.Machine.execAxisClearFault q axis s
  | .sequenceStart q kind => Sys2Proof.Machine.execSequenceStart q kind s
  | .windlassCommandLower q action target => Sys2Proof.Machine.execWindlassCommandLower q action target s
  | .windlassCommandHoist q action target => Sys2Proof.Machine.execWindlassCommandHoist q action target s
  | .windlassCommandLowerTo q action target => Sys2Proof.Machine.execWindlassCommandLowerTo q action target s
  | .windlassCommandHoistHome q action target => Sys2Proof.Machine.execWindlassCommandHoistHome q action target s
  | .windlassCommandStop q action target => Sys2Proof.Machine.execWindlassCommandStop q action target s
  | .windlassSetCount q count => Sys2Proof.Machine.execWindlassSetCount q count s
  | .windlassClearFault q => Sys2Proof.Machine.execWindlassClearFault q s
  | .windlassGet q => Sys2Proof.Machine.execWindlassGet q s
  | .panelList q => Sys2Proof.Machine.execPanelList q s
  | .panelForget q address => Sys2Proof.Machine.execPanelForget q address s
  | .indicatorSet q address key mode colour => Sys2Proof.Machine.execIndicatorSet q address key mode colour s
  | .bindingWrite q b => Sys2Proof.Machine.execBindingWrite q b s
  | .bindingRead q index => Sys2Proof.Machine.execBindingRead q index s
  | .configWrite q sec item value => Sys2Proof.Machine.execConfigWrite q sec item value s
  | .configRead q sec item => Sys2Proof.Machine.execConfigRead q sec item s
  | .commit q => Sys2Proof.Machine.execCommit q s
  | .commitSectionDone equal => Sys2Proof.Machine.execCommitSectionDone equal s
  | .noticeEnable q set => Sys2Proof.Machine.execNoticeEnable q set s
  | .fadeStep ch => Sys2Proof.Machine.execFadeStep ch s
  | .dwellEnd p => Sys2Proof.Machine.execDwellEnd p s
  | .currentConversion ch raw => Sys2Proof.Machine.execCurrentConversion ch raw s
  | .shortCircuitReport ch => Sys2Proof.Machine.execShortCircuitReport ch s
  | .channelRetry ch => Sys2Proof.Machine.execChannelRetry ch s
  | .tripSeriesQuiet ch => Sys2Proof.Machine.execTripSeriesQuiet ch s
  | .openLoad ch => Sys2Proof.Machine.execOpenLoad ch s
  | .loadRestored ch => Sys2Proof.Machine.execLoadRestored ch s
  | .pairDeadTimeEnd ch => Sys2Proof.Machine.execPairDeadTimeEnd ch s
  | .pairTimeout ch => Sys2Proof.Machine.execPairTimeout ch s
  | .beaconBlinkHalf => Sys2Proof.Machine.execBeaconBlinkHalf s
  | .beaconStretchEnd => Sys2Proof.Machine.execBeaconStretchEnd s
  | .supplyToBrownout => Sys2Proof.Machine.execSupplyToBrownout s
  | .stateNormal => Sys2Proof.Machine.execStateNormal s
  | .stateCritical => Sys2Proof.Machine.execStateCritical s
  | .levelFilterChange n pin run => Sys2Proof.Machine.execLevelFilterChange n pin run s
  | .stuck n => Sys2Proof.Machine.execStuck n s
  | .inputPulse n run => Sys2Proof.Machine.execInputPulse n run s
  | .pulseStuck n width => Sys2Proof.Machine.execPulseStuck n width s
  | .analogConversion n raw => Sys2Proof.Machine.execAnalogConversion n raw s
  | .sensorOk n raw => Sys2Proof.Machine.execSensorOk n raw s
  | .chainSensorStateChange a b => Sys2Proof.Machine.execChainSensorStateChange a b s
  | .stalenessTimerExpiry => Sys2Proof.Machine.execStalenessTimerExpiry s
  | .unlatchTimeout a => Sys2Proof.Machine.execUnlatchTimeout a s
  | .pumpLeadEnd => Sys2Proof.Machine.execPumpLeadEnd s
  | .runOnEnd => Sys2Proof.Machine.execRunOnEnd s
  | .latchTimeout a => Sys2Proof.Machine.execLatchTimeout a s
  | .runTimeout a => Sys2Proof.Machine.execRunTimeout a s
  | .cooldownEnd a => Sys2Proof.Machine.execCooldownEnd a s
  | .noProgress a => Sys2Proof.Machine.execNoProgress a s
  | .brakingEnd => Sys2Proof.Machine.execBrakingEnd s
  | .brakeFreeDelayEnd => Sys2Proof.Machine.execBrakeFreeDelayEnd s
  | .jogOnEnd => Sys2Proof.Machine.execJogOnEnd s
  | .jogOffEnd => Sys2Proof.Machine.execJogOffEnd s
  | .disagreementQuiet => Sys2Proof.Machine.execDisagreementQuiet s
  | .creepEnd => Sys2Proof.Machine.execCreepEnd s
  | .stall => Sys2Proof.Machine.execStall s
  | .thermalLockout => Sys2Proof.Machine.execThermalLockout s
  | .lockoutEnd => Sys2Proof.Machine.execLockoutEnd s
  | .countCellWriteDone => Sys2Proof.Machine.execCountCellWriteDone s
  | .slotStart => Sys2Proof.Machine.execSlotStart s
  | .capability frame => Sys2Proof.Machine.execCapability frame s
  | .short frame => Sys2Proof.Machine.execShort frame s
  | .ack frame => Sys2Proof.Machine.execAck frame s
  | .keys frame => Sys2Proof.Machine.execKeys frame s
  | .missedAnswer => Sys2Proof.Machine.execMissedAnswer s
  | .deadman panel key => Sys2Proof.Machine.execDeadman panel key s
  | .flashEnd panel key => Sys2Proof.Machine.execFlashEnd panel key s
  | .frameCheckFailed bytes => Sys2Proof.Machine.execFrameCheckFailed bytes s
  | .frameCut bytes cause => Sys2Proof.Machine.execFrameCut bytes cause s
  | .inputSettled n run => Sys2Proof.Machine.execInputSettled n run s

end Sys2Proof.Machine
end

