-- ==== Sys2Proof/Machine/Tick.lean ====
section
/-! DEFINITION. One millisecond (log 1): every clock of the blocks advances, and the commands that are then
due are put in the queue in one fixed order (log 2). What comes from outside is not among them (log 4), but for
the answer that the slot of the panel bus has brought, judged as the slot ends (log 60). -/

namespace Sys2Proof.Machine

/-! ### The clocks -/

/-- A count that runs up while it is present. -/
def up1 (t : Option Nat) : Option Nat := t.map (· + 1)
/-- A timer that runs down to 0 while it is present. -/
def down1 (t : Option Nat) : Option Nat := t.map (· - 1)

/-- A channel's clocks; each granted duty is driven from the start of the next PWM period, 2 ms (R9,
log 12). The 20 ms above the trip current pause while the output is off between two conversions (R10,
log 36). -/
def tickChan (s : State) (i : Fin 24) : Channel :=
  let c := s.chan[i]
  let on := s.gateOn i
  { c with
    pwm := if s.dev.uptime.toNat % 2 = 0 then c.granted else c.pwm
    fade := c.fade.map fun f => { f with since := f.since + 1 }
    tripAge := if c.fault = .latched then c.tripAge else up1 c.tripAge
    openMs := if s.openApplies i && openSide (s.chCfg i) c then c.openMs + 1 else c.openMs
    runMs := up1 c.runMs
    deadMs := up1 c.deadMs
    overMs := if on then up1 c.overMs else c.overMs
    offMs := if on then 0 else min 10 (c.offMs + 1) }

/-- The beacon's clocks (R16, R17). -/
def tickBeacon (b : Beacon) : Beacon :=
  { b with halfMs := if b.blinking then b.halfMs + 1 else b.halfMs, stretch := down1 b.stretch }

/-- The dwells of the players and the lapse time of the assembly (R43, R51). -/
def tickScene (e : SceneEngine) : SceneEngine :=
  { e with
    assembly := e.assembly.map fun a => { a with lapse := a.lapse - 1 }
    players := e.players.map fun x => { x with dwell := down1 x.dwell } }

/-- A digital input in use is sampled: its pin is as last seen (R61, log 13). -/
def tickDi (k : DiCfg) (d : DiRt) : DiRt :=
  if k.role = .unused then d else { d with run := d.run + 1, since := d.since + 1 }

/-- The inputs' clocks. -/
def tickInputs (g : GeneralSec) (i : Inputs) : Inputs :=
  { i with
    di := tab 16 fun n => tickDi g.di[n] i.di[n]
    ai := i.ai.map fun d => { d with recovery := up1 d.recovery } }

/-- An axis's clocks (R91); the progress window runs while its valve is open (R102). At rest the phase timer stands
at what its last phase left (the model's choice, log 74). -/
def tickAxis (valveOpen : Bool) (x : Axis) : Axis :=
  { x with
    phaseMs := if x.state.moving then x.phaseMs + 1 else x.phaseMs
    runMs := if x.state.driving then x.runMs + 1 else x.runMs
    window := if valveOpen then x.window.map fun w => (w.1, w.2 + 1) else x.window
    cooldown := down1 x.cooldown }

/-- The pack's clocks (R92). -/
def tickPack (p : Pack) : Pack :=
  { p with
    onMs := if p.pump = .off then p.onMs else p.onMs + 1
    runOn := if p.pump = .runOn then p.runOn - 1 else p.runOn }

/-- The Stern Motion block's clocks. -/
def tickStern (t : Stern) : Stern :=
  { t with
    platform := tickAxis t.pack.valve.isSome t.platform
    hatch := tickAxis t.pack.valve.isSome t.hatch
    pack := tickPack t.pack }

/-- The thermal integrator (R138): up by 1 while a contactor is on, down by 1 every 4 ms while both are off,
within 0..T_MAX. The 4 ms count from the contactor's going off, a part of them is dropped as one comes on (the
model's choice, log 100). -/
def tickHeat (tMax : Nat) (w : Windlass) : Windlass :=
  if w.up || w.down then { w with heat := min tMax (w.heat + 1), coolMs := 0 }
  else if 3 ≤ w.coolMs then { w with heat := w.heat - 1, coolMs := 0 }
  else { w with coolMs := w.coolMs + 1 }

/-- The windlass's clocks. -/
def tickWindlass (tMax : Nat) (w : Windlass) : Windlass :=
  { tickHeat tMax w with
    phaseMs := if w.state = .braking ∨ w.state = .jogging then w.phaseMs + 1 else w.phaseMs
    quietMs := w.quietMs + 1
    creep := w.creep.map fun b => (b.1, b.2 + 1)
    stall := w.stall.map fun t => (t.1 + 1, t.2) }

/-- The panel bus's clocks (R146, R166). -/
def tickPanel (b : PanelBus) : PanelBus :=
  { b with
    slotMs := up1 b.slotMs
    panels := b.panels.map fun e =>
      { e with holdings := e.holdings.map fun h => { h with deadman := h.deadman - 1 } } }

/-- The flash timers (R183). -/
def tickBind (b : BindBlock) : BindBlock := { b with flashes := b.flashes.map fun e => (e.1, e.2 - 1) }

/-- The command link's clocks (R200, R201). -/
def tickLink (l : CmdLink) : CmdLink :=
  { l with
    supervision := if l.device = .linked then down1 l.supervision else l.supervision
    aloneMs := if l.device = .standalone then l.aloneMs + 1 else l.aloneMs
    sending := l.sending.map fun f => { f with ms := f.ms + 1 } }

/-- The uptime, and the time a commit has taken. -/
def tickDev (d : Device) : Device :=
  { d with uptime := d.uptime + 1, commit := d.commit.map fun k => { k with ms := k.ms + 1 } }

/-- Every clock advances by 1 ms. -/
def advance (s0 : State) : State :=
  let s := { s0 with dev := tickDev s0.dev }
  { s with
    chan := tab 24 (tickChan s)
    beacon := tickBeacon s.beacon
    budget := { s.budget with dwell := s.budget.dwell.map fun d => (d.1, d.2 + 1) }
    scene := tickScene s.scene
    inp := tickInputs s.cfg.general s.inp
    vessel := { s.vessel with fresh := down1 s.vessel.fresh }
    stern := tickStern s.stern
    wl := tickWindlass s.cfg.limits.tMax s.wl
    panel := tickPanel s.panel
    bind := tickBind s.bind
    link := tickLink s.link }

/-! ### What is due -/

/-- A command, where it is due. -/
def due (cond : Bool) (i : Instr) : List Instr := if cond then [i] else []

/-- A count that is present has reached a length. -/
def hasReached (t : Option Nat) (length : Nat) : Bool := (t.map fun ms => reached ms length).getD false

/-- A channel's commands. -/
def dueChannel (s : State) (i : Fin 24) : List Instr :=
  let c := s.chan[i]
  due (hasReached (c.fade.map (·.since)) 20) (.fadeStep i) ++
  due (c.fault == .tripped && hasReached c.tripAge 1000) (.channelRetry i) ++
  due (c.retry != 0 && c.fault != .latched && hasReached c.tripAge 60000) (.tripSeriesQuiet i) ++
  due (!c.openFlag && s.openDue i) (.openLoad i) ++
  due (c.openFlag && s.openDue i) (.loadRestored i) ++
  due (hasReached c.deadMs 500) (.pairDeadTimeEnd i) ++
  due (hasReached c.runMs ((s.chCfg i).runTime * 1000)) (.pairTimeout i)

/-- The beacon's and the players' commands. -/
def dueScene (s : State) : List Instr :=
  due (s.beacon.blinking && reached s.beacon.halfMs 500) .beaconBlinkHalf ++
  due (s.beacon.stretch == some 0) .beaconStretchEnd ++
  ((List.finRange 4).map fun p =>
    due ((s.player p).state == .dwell && (s.player p).dwell == some 0) (.dwellEnd p)).flatten ++
  due ((s.scene.assembly.map (·.lapse)) == some 0) .writeLapsed

/-- The supply's commands (R33). -/
def dueSupply (s : State) : List Instr :=
  due (s.dwellOver .brownout) .supplyToBrownout ++ due (s.dwellOver .normal) .stateNormal ++
  due (s.dwellOver .critical) .stateCritical

/-- A digital input's commands, its pin as last seen (R62 to R64). -/
def dueInput (s : State) (n : Fin 16) : List Instr :=
  let k := s.diCfg n
  let d := s.diRt n
  let on := k.activeAt d.pin
  if k.role = .unused then []
  else
    due (!k.pulse && on != d.filtered && reached d.run k.tStable) (.levelFilterChange n d.pin d.run) ++
    due (!on && !d.settled && !d.filtered && reached d.run (if k.pulse then 5 else k.tStable))
      (.inputSettled n d.run) ++
    due (!k.pulse && k.stuckLimit != 0 && d.filtered && !d.stuck && reached d.since (k.stuckLimit * 1000))
      (.stuck n) ++
    due (k.pulse && !on && d.filtered && reached d.run 5) (.inputPulse n d.run) ++
    due (s.pulseTooWide n) (.pulseStuck n (d.width k))

/-- An axis's commands. -/
def dueAxis (s : State) (a : AxisId) : List Instr :=
  let x := s.axis a
  due (x.state == .unlatching && reached x.phaseMs 3000) (.unlatchTimeout a) ++
  due (x.state == .latching && reached x.phaseMs 3000) (.latchTimeout a) ++
  due (x.state.driving && reached x.runMs (s.runLimit a)) (.runTimeout a) ++
  due (x.state.driving && s.stern.pack.valve.isSome && hasReached (x.window.map (·.2)) 2000) (.noProgress a) ++
  due (x.cooldown == some 0) (.cooldownEnd a)

/-- The pack's commands. -/
def duePack (s : State) : List Instr :=
  let p := s.stern.pack
  due (p.pump == .lead && reached p.onMs p.lead) .pumpLeadEnd ++
  due (p.pump == .runOn && p.runOn == 0) .runOnEnd

/-- The windlass's commands. -/
def dueWindlass (s : State) : List Instr :=
  let w := s.wl
  due (w.brakeFree && (w.state == .braking || (w.state == .jogging && !w.jogOn)) && reached w.phaseMs 100)
    .brakeFreeDelayEnd ++
  due (w.state == .braking && reached w.phaseMs 500) .brakingEnd ++
  due (w.state == .jogging && w.jogOn && reached w.phaseMs 800) .jogOnEnd ++
  due (w.state == .jogging && !w.jogOn && reached w.phaseMs 1200) .jogOffEnd ++
  due (w.state.powered && w.disagree != 0 && reached w.quietMs 2000) .disagreementQuiet ++
  due (hasReached (w.creep.map (·.2)) 2000) .creepEnd ++
  due (w.state.powered && ((w.stall.map fun t => reached t.1 t.2).getD false)) .stall ++
  due (w.state.powered && decide (s.cfg.limits.tMax ≤ w.heat)) .thermalLockout ++
  due (w.state == .lockout && decide (w.heat ≤ s.cfg.limits.tMax / 2)) .lockoutEnd

/-- A panel's holdings whose deadman has run out. -/
def dueDeadman (s : State) (p : Fin 32) : List Instr :=
  (List.finRange 16).filterMap fun k =>
    if (s.entry p).holdings.any (fun h => h.key == k.val && h.deadman == 0) then some (.deadman p k) else none

/-- The flash timers that have run out. -/
def dueFlash (s : State) : List Instr :=
  s.bind.flashes.filterMap fun e =>
    if h : e.2 = 0 ∧ e.1 / 16 < 32 then
      some (.flashEnd ⟨e.1 / 16, h.2⟩ ⟨e.1 % 16, Nat.mod_lt _ (by decide)⟩) else none

/-- The panel bus's slots (R146, R155): a slot that called is judged as it ends, by the command of what it has
brought (log 60), and the next slot starts (log 20). The first slot starts in the first ms after STARTING, a ms
after START_UP_INPUTS_SETTLED at the earliest (log 61). -/
def dueSlot (s : State) : List Instr :=
  (match s.panel.call with
   | some c => due s.slotOver c.judgedBy
   | none => []) ++ due (s.slotOver && !s.starting) .slotStart

/-- The transmitter's frame has gone, or the transmitter is idle and has something to send (R192). R192 bounds the
first byte of a reply by 50 ms; it begins at the next ms (the model's choice, log 110). -/
def dueSend (s : State) : Bool :=
  match s.link.sending with
  | some f => reached f.ms (lineTime f.bytes.length)
  | none =>
    !s.link.replies.isEmpty ||
      (s.link.device == .linked && !s.link.resetReply && !s.link.queue.isEmpty)

/-- The command link's commands: supervision, the request at the head of the request list, the transmitter
(R189, R192, R201). R189 has a request taken within 10 ms of reaching the head; it is taken at the next ms, one a ms
(the model's choice, log 109). -/
def dueLink (s : State) : List Instr :=
  due (s.link.device == .linked && s.link.supervision == some 0) .supervisionExpiry ++
  (match s.link.requests with
   | f :: _ => due (!s.link.resetReply) (takeOf f)
   | [] => []) ++
  due (dueSend s) .replyOrNoticeSent

/-- Everything that is due, in the model's order (log 2). -/
def dueList (s : State) : List Instr :=
  due s.startUpOver .startUpInputsSettled ++
  ((List.finRange 24).map (dueChannel s)).flatten ++ dueScene s ++ dueSupply s ++
  ((List.finRange 16).map (dueInput s)).flatten ++ due (s.vessel.fresh == some 0) .stalenessTimerExpiry ++
  duePack s ++ dueAxis s .platform ++ dueAxis s .hatch ++ dueWindlass s ++
  ((List.finRange 32).map (dueDeadman s)).flatten ++ dueFlash s ++ dueLink s ++ dueSlot s

/-- One millisecond with nothing commanded: the clocks advance, and what is then due waits in the queue. -/
def tick (s : State) : State :=
  let s1 := advance s
  { s1 with pending := dueList s1 }

end Sys2Proof.Machine
end

