-- ==== Sys2Proof/Machine/Step.lean ====
section
/-! DEFINITION. One step: the command at the front of the queue, or a millisecond (log 1). -/

namespace Sys2Proof.Machine

/-- The command at the front of the queue leaves it and is carried out; with an empty queue one millisecond
passes. -/
def step (s : State) : Host.Outcome State Fault Refusal :=
  match s.pending with
  | i :: rest => exec i { s with pending := rest }
  | [] => .next (tick s)

/-- The command that a table word spells, put at the front of the queue; no row gives bits, so none is. -/
def State.withFetchWord (s : State) (nbits w : Nat) : State :=
  match decodeTableWord nbits w with
  | some i => { s with pending := i :: s.pending }
  | none => s

end Sys2Proof.Machine
end

