-- ==== Sys2Proof/WellFormed.lean ====
section
/-! DEFINITION. Which commands can arise at all: each number a request carries fits the width of its field
in the layouts of R215 and R216, a LENGTH fits the frame, and a conversion is a 12-bit count. A command
outside these is no command the lines or the converters can make; its ranges in the sense of the spec's
OUT_OF_RANGE are judged by its meaning. -/

namespace Sys2Proof

/-- A one-byte figure. -/
def u8 (n : Nat) : Bool := n < 256
/-- A two-byte figure. -/
def u16 (n : Nat) : Bool := n < 65536
/-- LENGTH is 0..240 (R187). -/
def Req.wf (q : Req) : Bool := q.len ≤ 240

/-- The fields of a SCENE_WRITE first part fit their widths, and its lists have the lengths it carries. -/
def ScenePart.wf (p : ScenePart) : Bool :=
  u8 p.part && u8 p.slot && u8 p.kind && u8 p.m && u8 p.n && u16 p.fade && p.dwell < 4294967296 &&
  u8 p.repeats && u8 p.endCode && u8 p.nameLen && p.chans.all u8 && p.levels.all u16

/-- The fields of a binding record fit their widths. -/
def BindingPart.wf (b : BindingPart) : Bool :=
  u8 b.index && u8 b.flags && u8 b.kind && u16 b.match1 && u16 b.match2 && u8 b.action && u8 b.busy &&
  u8 b.p1 && decide (-32768 ≤ b.p2) && decide (b.p2 < 32768) && u16 b.p3 && u8 b.zero

/-- Every field fits its width. -/
def Instr.wf : Instr → Bool
  | .powerOn | .supplyDip | .startUpInputsSettled => true
  | .goodFrame bytes => !bytes.isEmpty
  | .supervisionExpiry | .replyOrNoticeSent => true
  | .requestUnknownKind q _ => q.wf
  | .getStatus q => q.wf
  | .setVesselData q speed source => q.wf && u16 speed && u8 source
  | .reset q => q.wf
  | .channelSet q ch level fade => q.wf && u8 ch && u16 level && u16 fade
  | .channelGet q ch => q.wf && u8 ch
  | .channelClearFault q ch => q.wf && u8 ch
  | .sceneWriteFirstPart q p => q.wf && p.wf
  | .sceneWriteContinuation q slot first levels => q.wf && u8 slot && u8 first && levels.all u16 &&
      levels.length == (q.len - 3) / 2
  | .writeLapsed => true
  | .sceneRead q slot first => q.wf && u8 slot && u8 first
  | .sceneDelete q slot => q.wf && u8 slot
  | .playerStart q player slot busy => q.wf && u8 player && u8 slot && u8 busy
  | .playerStopFinish q player kind => q.wf && u8 player && u8 kind && kind != 1
  | .playerStopAbort q player kind => q.wf && u8 player && kind == 1
  | .playerGet q player => q.wf && u8 player
  | .budgetGet q => q.wf
  | .reserve q holder amount => q.wf && u8 holder && u16 amount
  | .release q holder => q.wf && u8 holder
  | .axisMove q axis target => q.wf && u8 axis && u16 target
  | .axisStop q which => q.wf && u8 which
  | .axisGet q axis => q.wf && u8 axis
  | .axisClearFault q axis => q.wf && u8 axis
  | .sequenceStart q kind => q.wf && u8 kind
  | .windlassCommandLower q action target => q.wf && u8 action && u16 target && !(1 ≤ action && action ≤ 4)
  | .windlassCommandHoist q action target => q.wf && action == 1 && u16 target
  | .windlassCommandLowerTo q action target => q.wf && action == 2 && u16 target
  | .windlassCommandHoistHome q action target => q.wf && action == 3 && u16 target
  | .windlassCommandStop q action target => q.wf && action == 4 && u16 target
  | .windlassSetCount q count => q.wf && u16 count
  | .windlassClearFault q | .windlassGet q | .panelList q => q.wf
  | .panelForget q address => q.wf && u8 address
  | .indicatorSet q address key mode colour => q.wf && u8 address && u8 key && u8 mode && u8 colour
  | .bindingWrite q b => q.wf && b.wf
  | .bindingRead q index => q.wf && u8 index
  | .configWrite q sec item value => q.wf && u8 sec && u8 item && value.length == q.len - 2
  | .configRead q sec item => q.wf && u8 sec && u8 item
  | .commit q => q.wf
  | .commitSectionDone _ => true
  | .noticeEnable q set => q.wf && u16 set
  | .fadeStep _ | .dwellEnd _ => true
  | .currentConversion _ raw => raw ≤ 4095
  | .shortCircuitReport _ | .channelRetry _ | .tripSeriesQuiet _ | .openLoad _ | .loadRestored _ => true
  | .pairDeadTimeEnd _ | .pairTimeout _ | .beaconBlinkHalf | .beaconStretchEnd => true
  | .supplyToBrownout | .stateNormal | .stateCritical => true
  | .levelFilterChange _ _ _ | .stuck _ | .inputPulse _ _ | .pulseStuck _ _ => true
  | .analogConversion _ raw => raw ≤ 4095
  | .sensorOk _ raw => raw ≤ 4095
  | .chainSensorStateChange _ _ | .stalenessTimerExpiry => true
  | .unlatchTimeout _ | .pumpLeadEnd | .runOnEnd | .latchTimeout _ | .runTimeout _ => true
  | .cooldownEnd _ | .noProgress _ => true
  | .brakingEnd | .brakeFreeDelayEnd | .jogOnEnd | .jogOffEnd | .disagreementQuiet | .creepEnd => true
  | .stall | .thermalLockout | .lockoutEnd | .countCellWriteDone => true
  | .slotStart => true
  | .capability frame => !frame.isEmpty
  | .short frame => !frame.isEmpty
  | .ack frame => !frame.isEmpty
  | .keys frame => !frame.isEmpty
  | .missedAnswer => true
  | .deadman _ _ | .flashEnd _ _ => true
  | .frameCheckFailed bytes => !bytes.isEmpty
  | .frameCut _ _ => true
  | .inputSettled _ _ => true

end Sys2Proof
end

