-- ==== Sys2Proof/Safety.lean ====
section
/-! DEFINITION. What counts as a safe state, and the conditions that statements are made under. -/

namespace Sys2Proof.Machine

/-- A property that every step keeps. -/
def Kept (P : State → Prop) : Prop := ∀ s t, P s → step s = .next t → P t

/-! ### Safe states -/

/-- The platform and the hatch are never both in a moving phase (R92). -/
def State.OneMoves (s : State) : Prop :=
  ¬((s.axis .platform).state.moving = true ∧ (s.axis .hatch).state.moving = true)

/-- The lists that the spec bounds hold no more than it allows (R173, R189, R196), and the chain count lies within
0..9999 (R121). -/
structure State.Bounded (s : State) : Prop where
  notices : s.link.queue.length ≤ 32
  requests : s.link.requests.length ≤ 3
  events : s.bind.events.length ≤ 16
  startUp : s.bind.startUp.length ≤ 32
  count : s.wl.count ≤ 9999

/-- The beacon's active mark agrees with the machinery: it is set while an axis is in a moving phase or the windlass
runs (R16). The beacon blinks while it is set and while the stretch timer runs, which it does only after it (R17). -/
structure State.BeaconAgrees (s : State) : Prop where
  active : s.beacon.active = s.beaconActive
  blinks : s.beacon.blinking = (s.beacon.active || s.beacon.stretch.isSome)
  stretch : s.beacon.active = true → s.beacon.stretch = none

/-- The two channels of a matched pair are never at level 1000 together, and only a DIMMED channel has a
running fade (R4, R14). -/
structure State.PairsApart (s : State) : Prop where
  fades : ∀ i : Fin 24, s.chan[i].fade.isSome → (s.chCfg i).type = .dimmed
  apart : ∀ i j : Fin 24, s.matched i j = true → ¬(s.chan[i].level = 1000 ∧ s.chan[j].level = 1000)

/-- A permit term is in range, every figure is, and the figures of each section fit together: what R204
lets in and R208 loads. -/
structure Cfg.InRange (c : Cfg) : Prop where
  general : sectionOk 0 c = true
  channels : sectionOk 1 c = true
  scenes : scenesOk c.scenes = true
  bindings : bindingsOk c.bindings = true
  panels : sectionOk 4 c = true
  axes : sectionOk 5 c = true
  windlass : sectionOk 6 c = true
  supply : sectionOk 7 c = true
  limits : sectionOk 8 c = true

/-- What an open assembly holds is in range, all but its rows still to come (R41). -/
def Assembly.InRange (a : Assembly) : Prop :=
  a.rcd.rows.length ≤ a.rcd.steps ∧
    ({ a.rcd with rows := List.replicate a.rcd.steps (List.replicate a.rcd.chans.length 0) } : SceneRec).ok =
      true ∧
    ∀ row ∈ a.rcd.rows, row.length = a.rcd.chans.length ∧ ∀ l ∈ row, l ≤ 1000

/-- The working copy is in range, and so is the assembly that is to be installed in it. -/
structure State.ConfigInRange (s : State) : Prop where
  cfg : s.cfg.InRange
  assembly : ∀ a, s.scene.assembly = some a → a.InRange

/-! ### Conditions -/

/-- A request can be taken: start-up is over, and no RESET reply has been formed (R190, R194). -/
abbrev State.Takes (s : State) : Prop := s.starting = false ∧ s.link.resetReply = false

theorem State.Takes.started {s : State} (h : s.Takes) : s.starting = false := h.1
theorem State.Takes.noReset {s : State} (h : s.Takes) : s.link.resetReply = false := h.2

/-- Between two commands nothing waits inside a block: no move to IDLE (R56), nothing told to a sequence
(R113), no event and no action (R173). -/
abbrev State.Between (s : State) : Prop :=
  s.scene.idleWork = [] ∧ s.stern.seqWork = [] ∧ s.bind.events = [] ∧ s.bind.acting = none

theorem State.Between.idle {s : State} (h : s.Between) : s.scene.idleWork = [] := h.1
theorem State.Between.told {s : State} (h : s.Between) : s.stern.seqWork = [] := h.2.1
theorem State.Between.events {s : State} (h : s.Between) : s.bind.events = [] := h.2.2.1
theorem State.Between.acting {s : State} (h : s.Between) : s.bind.acting = none := h.2.2.2

/-- No binding is enabled: an event that a command raises is matched by none. -/
abbrev State.Unbound (s : State) : Prop := ∀ i : Fin 64, s.cfg.bindings[i].enabled = false

/-- No permit term is enabled: the fixed interlocks alone judge a start. -/
abbrev State.Unwatched (s : State) : Prop := ∀ i : Fin 16, s.cfg.limits.terms[i].enabled = false

/-- Started up, between two commands, and no binding enabled. -/
abbrev State.Calm (s : State) : Prop := s.starting = false ∧ s.Between ∧ s.Unbound

theorem State.Calm.started {s : State} (h : s.Calm) : s.starting = false := h.1
theorem State.Calm.between {s : State} (h : s.Calm) : s.Between := h.2.1
theorem State.Calm.unbound {s : State} (h : s.Calm) : s.Unbound := h.2.2

/-! ### Notices -/

/-- On the way from s to t a notice is given: it joins a queue that begins with that of s, and what is queued
after it follows. Whether it joins at all is `notice`'s to say (R196). -/
def Gives (n : Note) (subject : Nat) (values : List Int) (s t : State) : Prop :=
  ∃ u : State, s.link.queue <+: u.link.queue ∧ u.link.enabled = s.link.enabled ∧ u.dev.uptime = s.dev.uptime ∧
    (notice n subject values u).link.queue <+: t.link.queue

/-! ### What falls due -/

/-- An axis's commands are due. -/
def AxisDue (s : State) (a : AxisId) : Instr → Prop
  | .unlatchTimeout _ => (s.axis a).state = .unlatching ∧ 3000 ≤ (s.axis a).phaseMs
  | .latchTimeout _ => (s.axis a).state = .latching ∧ 3000 ≤ (s.axis a).phaseMs
  | .runTimeout _ => (s.axis a).state.driving = true ∧ s.runLimit a ≤ (s.axis a).runMs
  | .noProgress _ => (s.axis a).state.driving = true ∧ s.stern.pack.valve.isSome ∧
      ∃ w, (s.axis a).window = some w ∧ 2000 ≤ w.2
  | .cooldownEnd _ => (s.axis a).cooldown = some 0
  | _ => False

/-- A digital input's commands are due, its pin as last seen. -/
def InputDue (s : State) (n : Fin 16) : Instr → Prop
  | .levelFilterChange _ pin run => (s.diCfg n).pulse = false ∧ pin = (s.diRt n).pin ∧ run = (s.diRt n).run ∧
      (s.diCfg n).activeAt pin ≠ (s.diRt n).filtered ∧ (s.diCfg n).tStable ≤ run
  | .inputSettled _ run => run = (s.diRt n).run ∧ (s.diCfg n).activeAt (s.diRt n).pin = false ∧
      (s.diRt n).settled = false ∧ (s.diRt n).filtered = false ∧
      (if (s.diCfg n).pulse then 5 else (s.diCfg n).tStable) ≤ run
  | .stuck _ => (s.diCfg n).pulse = false ∧ (s.diCfg n).stuckLimit ≠ 0 ∧ (s.diRt n).filtered = true ∧
      (s.diRt n).stuck = false ∧ (s.diCfg n).stuckLimit * 1000 ≤ (s.diRt n).since
  | .inputPulse _ run => (s.diCfg n).pulse = true ∧ run = (s.diRt n).run ∧
      (s.diCfg n).activeAt (s.diRt n).pin = false ∧ (s.diRt n).filtered = true ∧ 5 ≤ run
  | .pulseStuck _ width => s.pulseTooWide n = true ∧ width = (s.diRt n).width (s.diCfg n)
  | _ => False

/-- The windlass's commands are due. -/
def WindlassDue (s : State) : Instr → Prop
  | .brakeFreeDelayEnd => s.wl.brakeFree = true ∧
      (s.wl.state = .braking ∨ (s.wl.state = .jogging ∧ s.wl.jogOn = false)) ∧ 100 ≤ s.wl.phaseMs
  | .brakingEnd => s.wl.state = .braking ∧ 500 ≤ s.wl.phaseMs
  | .jogOnEnd => s.wl.state = .jogging ∧ s.wl.jogOn = true ∧ 800 ≤ s.wl.phaseMs
  | .jogOffEnd => s.wl.state = .jogging ∧ s.wl.jogOn = false ∧ 1200 ≤ s.wl.phaseMs
  | .disagreementQuiet => s.wl.state.powered = true ∧ s.wl.disagree ≠ 0 ∧ 2000 ≤ s.wl.quietMs
  | .creepEnd => ∃ b, s.wl.creep = some b ∧ 2000 ≤ b.2
  | .stall => s.wl.state.powered = true ∧ ∃ t, s.wl.stall = some t ∧ t.2 ≤ t.1
  | .thermalLockout => s.wl.state.powered = true ∧ s.cfg.limits.tMax ≤ s.wl.heat
  | .lockoutEnd => s.wl.state = .lockout ∧ s.wl.heat ≤ s.cfg.limits.tMax / 2
  | _ => False

/-- A channel's commands are due. -/
def ChannelDue (s : State) (i : Fin 24) : Instr → Prop
  | .fadeStep _ => ∃ f, s.chan[i].fade = some f ∧ 20 ≤ f.since
  | .channelRetry _ => s.chan[i].fault = .tripped ∧ ∃ ms, s.chan[i].tripAge = some ms ∧ 1000 ≤ ms
  | .tripSeriesQuiet _ => s.chan[i].retry ≠ 0 ∧ s.chan[i].fault ≠ .latched ∧
      ∃ ms, s.chan[i].tripAge = some ms ∧ 60000 ≤ ms
  | .openLoad _ => s.chan[i].openFlag = false ∧ s.openDue i = true
  | .loadRestored _ => s.chan[i].openFlag = true ∧ s.openDue i = true
  | .pairDeadTimeEnd _ => ∃ ms, s.chan[i].deadMs = some ms ∧ 500 ≤ ms
  | .pairTimeout _ => ∃ ms, s.chan[i].runMs = some ms ∧ (s.chCfg i).runTime * 1000 ≤ ms
  | _ => False

/-- The panel bus's slot is over and has brought an answer of a kind, which the command judges (R155, log 60). -/
def SlotBrought (s : State) (kind : AnswerKind) (f : List Byte) : Prop :=
  (∀ ms, s.panel.slotMs = some ms → 5 ≤ ms) ∧ ∃ c, s.panel.call = some c ∧ c.answer = .came kind f

/-- A command is due at the end of a millisecond (log 2): the end of a timer that has run its length, the
request at the head of the request list, or a slot of the panel bus that is over, with the answer it has
brought (log 60). Nothing else that the outside shows is. -/
def DueAt (s : State) : Instr → Prop
  | .startUpInputsSettled => s.startUpOver = true
  | .fadeStep i => ChannelDue s i (.fadeStep i)
  | .channelRetry i => ChannelDue s i (.channelRetry i)
  | .tripSeriesQuiet i => ChannelDue s i (.tripSeriesQuiet i)
  | .openLoad i => ChannelDue s i (.openLoad i)
  | .loadRestored i => ChannelDue s i (.loadRestored i)
  | .pairDeadTimeEnd i => ChannelDue s i (.pairDeadTimeEnd i)
  | .pairTimeout i => ChannelDue s i (.pairTimeout i)
  | .beaconBlinkHalf => s.beacon.blinking = true ∧ 500 ≤ s.beacon.halfMs
  | .beaconStretchEnd => s.beacon.stretch = some 0
  | .dwellEnd p => (s.player p).state = .dwell ∧ (s.player p).dwell = some 0
  | .writeLapsed => ∃ a, s.scene.assembly = some a ∧ a.lapse = 0
  | .supplyToBrownout => s.dwellOver .brownout = true
  | .stateNormal => s.dwellOver .normal = true
  | .stateCritical => s.dwellOver .critical = true
  | .levelFilterChange n pin run => (s.diCfg n).role ≠ .unused ∧ InputDue s n (.levelFilterChange n pin run)
  | .inputSettled n run => (s.diCfg n).role ≠ .unused ∧ InputDue s n (.inputSettled n run)
  | .stuck n => (s.diCfg n).role ≠ .unused ∧ InputDue s n (.stuck n)
  | .inputPulse n run => (s.diCfg n).role ≠ .unused ∧ InputDue s n (.inputPulse n run)
  | .pulseStuck n width => (s.diCfg n).role ≠ .unused ∧ InputDue s n (.pulseStuck n width)
  | .stalenessTimerExpiry => s.vessel.fresh = some 0
  | .pumpLeadEnd => s.stern.pack.pump = .lead ∧ s.stern.pack.lead ≤ s.stern.pack.onMs
  | .runOnEnd => s.stern.pack.pump = .runOn ∧ s.stern.pack.runOn = 0
  | .unlatchTimeout a => AxisDue s a (.unlatchTimeout a)
  | .latchTimeout a => AxisDue s a (.latchTimeout a)
  | .runTimeout a => AxisDue s a (.runTimeout a)
  | .noProgress a => AxisDue s a (.noProgress a)
  | .cooldownEnd a => AxisDue s a (.cooldownEnd a)
  | .brakeFreeDelayEnd => WindlassDue s .brakeFreeDelayEnd
  | .brakingEnd => WindlassDue s .brakingEnd
  | .jogOnEnd => WindlassDue s .jogOnEnd
  | .jogOffEnd => WindlassDue s .jogOffEnd
  | .disagreementQuiet => WindlassDue s .disagreementQuiet
  | .creepEnd => WindlassDue s .creepEnd
  | .stall => WindlassDue s .stall
  | .thermalLockout => WindlassDue s .thermalLockout
  | .lockoutEnd => WindlassDue s .lockoutEnd
  | .deadman p key => ∃ h ∈ (s.entry p).holdings, h.key = key.val ∧ h.deadman = 0
  | .flashEnd p key => (16 * p.val + key.val, 0) ∈ s.bind.flashes
  | .supervisionExpiry => s.link.device = .linked ∧ s.link.supervision = some 0
  | .replyOrNoticeSent =>
    (∃ f, s.link.sending = some f ∧ lineTime f.bytes.length ≤ f.ms) ∨
      (s.link.sending = none ∧ (s.link.replies ≠ [] ∨
        (s.link.device = .linked ∧ s.link.resetReply = false ∧ s.link.queue ≠ [])))
  | .missedAnswer => (∀ ms, s.panel.slotMs = some ms → 5 ≤ ms) ∧
      ∃ c, s.panel.call = some c ∧ (c.answer = .awaited ∨ c.answer = .missed)
  | .capability f => SlotBrought s .capability f
  | .short f => SlotBrought s .short f
  | .ack f => SlotBrought s .ack f
  | .keys f => SlotBrought s .keys f
  | .slotStart => s.starting = false ∧ ∀ ms, s.panel.slotMs = some ms → 5 ≤ ms
  | c => ∃ f rest, s.link.requests = f :: rest ∧ s.link.resetReply = false ∧ c = takeOf f

/-! ### Replies -/

/-- The request list after a request of a kind and a tag has been taken from its head. -/
def afterTaken (kind tag : Byte) : List Frame → List Frame
  | f :: rest => if f.kind = kind ∧ f.tag = tag then rest else f :: rest
  | [] => []

/-- A state with one more reply formed, and its request gone from the head of the request list. -/
def withReply (kind : Byte) (q : Req) (a : Ans) (s : State) : State :=
  { s with link := { s.link with
    replies := s.link.replies ++ [⟨kind, q.tag, a.status, a.detail, a.result⟩]
    requests := afterTaken kind q.tag s.link.requests } }

/-- A state with the request of a kind and a tag gone from the head of the request list. -/
def State.taken (s : State) (kind : Byte) (q : Req) : State :=
  { s with link := { s.link with requests := afterTaken kind q.tag s.link.requests } }

/-- The kind, the tag and LENGTH, and the one allowed LENGTH of each request that has one (R215). -/
def fixedForm : Instr → Option (Byte × Req × Nat)
  | .getStatus q => some (0x01, q, 0)
  | .setVesselData q _ _ => some (0x02, q, 3)
  | .reset q => some (0x03, q, 0)
  | .channelSet q _ _ _ => some (0x04, q, 5)
  | .channelGet q _ => some (0x05, q, 1)
  | .channelClearFault q _ => some (0x06, q, 1)
  | .sceneRead q _ _ => some (0x08, q, 2)
  | .sceneDelete q _ => some (0x09, q, 1)
  | .playerStart q _ _ _ => some (0x0A, q, 3)
  | .playerStopFinish q _ _ => some (0x0B, q, 2)
  | .playerStopAbort q _ _ => some (0x0B, q, 2)
  | .playerGet q _ => some (0x0C, q, 1)
  | .budgetGet q => some (0x0D, q, 0)
  | .reserve q _ _ => some (0x0E, q, 3)
  | .release q _ => some (0x0F, q, 1)
  | .axisMove q _ _ => some (0x10, q, 3)
  | .axisStop q _ => some (0x11, q, 1)
  | .axisGet q _ => some (0x12, q, 1)
  | .axisClearFault q _ => some (0x13, q, 1)
  | .sequenceStart q _ => some (0x14, q, 1)
  | .windlassCommandLower q _ _ => some (0x15, q, 3)
  | .windlassCommandHoist q _ _ => some (0x15, q, 3)
  | .windlassCommandLowerTo q _ _ => some (0x15, q, 3)
  | .windlassCommandHoistHome q _ _ => some (0x15, q, 3)
  | .windlassCommandStop q _ _ => some (0x15, q, 3)
  | .windlassGet q => some (0x16, q, 0)
  | .windlassSetCount q _ => some (0x17, q, 2)
  | .windlassClearFault q => some (0x18, q, 0)
  | .panelList q => some (0x19, q, 0)
  | .panelForget q _ => some (0x1A, q, 1)
  | .indicatorSet q _ _ _ _ => some (0x1B, q, 4)
  | .bindingWrite q _ => some (0x1C, q, 15)
  | .bindingRead q _ => some (0x1D, q, 1)
  | .configRead q _ _ => some (0x1F, q, 2)
  | .noticeEnable q _ => some (0x21, q, 2)
  | _ => none

/-- The kind, the tag and LENGTH of every request of the catalogue, and whether its LENGTH is one that its kind
allows (R190, R215, R216). -/
def requestForm : Instr → Option (Byte × Req × Bool)
  | .sceneWriteFirstPart q p => some (0x07, q, firstPartLengthOk q.len p)
  | .sceneWriteContinuation q _ _ levels => some (0x07, q, continuationLengthOk q.len levels)
  | .configWrite q sec item _ => some (0x1E, q, configLengthOk q.len sec item)
  | .commit q => some (0x20, q, q.len == 0)
  | c => (fixedForm c).map fun f => (f.1, f.2.1, f.2.1.len == f.2.2)

/-- What a request refused before its block answers: a SCENE_WRITE part with the rows received and the used
count, every other request with its status alone (R40, R191). -/
def refusedBefore (kind : Byte) (c : Status) (s : State) : Ans :=
  if kind = 0x07 then ⟨c, s.rowsReceived, le16 s.usedCells⟩ else Ans.refused c

end Sys2Proof.Machine
end

