-- ==== Sys2Proof/Certificates/Slice0/Obligations.lean ====
section
/-! DEFINITION. The statements for the provers. -/

open Sys2Proof Sys2Proof.Machine

/-! ### The queue and the clock -/

/-- A step with a command at the front of the queue is that command's exec on the state with the rest. -/
def Obligations.StepRunsTheFrontCommand : Prop :=
  ∀ (c : Instr) (s : State) (rest : List Instr),
    step { s with pending := c :: rest } = exec c { s with pending := rest }

/-- The model's choice (logs 1 and 2): with an empty queue one millisecond passes. Each clock of each block
advances by it, by the rule that names the clock, and nothing else of any block changes, nor the configuration, the
nonvolatile memory or what is queued on the link. The PWM periods begin at the even uptimes (log 12), the pins stay
as last seen (log 13), the time above the trip current pauses while the output is off (log 36), the phase timer of
an axis at rest stands (log 74), and the 4 ms of T's fall count from the contactor's going off (log 100). Then the
queue holds what is due, in the model's order: the ends of the timers that have run their length, the request at
the head of the request list, one a ms (log 109), the transmitter's next act (log 110) and the panel bus's (as a
slot ends, the command that judges what it brought, log 60), and nothing else. -/
def Obligations.EmptyQueueLetsOneMillisecondPass : Prop :=
  ∀ s : State, s.pending = [] → ∃ t, step s = .next t ∧
    t.cfg = s.cfg ∧ t.nv = s.nv ∧
    t.dev = { s.dev with
      uptime := s.dev.uptime + 1, commit := s.dev.commit.map fun k => { k with ms := k.ms + 1 } } ∧
    (∀ i : Fin 24, t.chan[i] = { s.chan[i] with
      pwm := if (s.dev.uptime + 1).toNat % 2 = 0 then s.chan[i].granted else s.chan[i].pwm
      fade := s.chan[i].fade.map fun f => { f with since := f.since + 1 }
      tripAge := if s.chan[i].fault = .latched then s.chan[i].tripAge else s.chan[i].tripAge.map (· + 1)
      openMs := if s.openApplies i = true ∧ openSide (s.chCfg i) s.chan[i] = true then s.chan[i].openMs + 1
        else s.chan[i].openMs
      runMs := s.chan[i].runMs.map (· + 1)
      deadMs := s.chan[i].deadMs.map (· + 1)
      overMs := if s.gateOn i then s.chan[i].overMs.map (· + 1) else s.chan[i].overMs
      offMs := if s.gateOn i then 0 else min 10 (s.chan[i].offMs + 1) }) ∧
    t.beacon = { s.beacon with
      halfMs := if s.beacon.blinking then s.beacon.halfMs + 1 else s.beacon.halfMs
      stretch := s.beacon.stretch.map (· - 1) } ∧
    t.budget = { s.budget with dwell := s.budget.dwell.map fun d => (d.1, d.2 + 1) } ∧
    t.scene = { s.scene with
      assembly := s.scene.assembly.map fun a => { a with lapse := a.lapse - 1 }, players := t.scene.players } ∧
    (∀ p, t.player p = { s.player p with dwell := (s.player p).dwell.map (· - 1) }) ∧
    t.inp.chain = s.inp.chain ∧
    (∀ n, t.diRt n = if (s.diCfg n).role = .unused then s.diRt n
      else { s.diRt n with run := (s.diRt n).run + 1, since := (s.diRt n).since + 1 }) ∧
    (∀ n, t.aiRt n = { s.aiRt n with recovery := (s.aiRt n).recovery.map (· + 1) }) ∧
    t.vessel = { s.vessel with fresh := s.vessel.fresh.map (· - 1) } ∧
    (∀ a, t.axis a = { s.axis a with
      phaseMs := if (s.axis a).state.moving then (s.axis a).phaseMs + 1 else (s.axis a).phaseMs
      runMs := if (s.axis a).state.driving then (s.axis a).runMs + 1 else (s.axis a).runMs
      window := if s.stern.pack.valve.isSome then (s.axis a).window.map fun w => (w.1, w.2 + 1)
        else (s.axis a).window
      cooldown := (s.axis a).cooldown.map (· - 1) }) ∧
    t.stern = { s.stern with platform := t.stern.platform, hatch := t.stern.hatch, pack := { s.stern.pack with
      onMs := if s.stern.pack.pump = .off then s.stern.pack.onMs else s.stern.pack.onMs + 1
      runOn := if s.stern.pack.pump = .runOn then s.stern.pack.runOn - 1 else s.stern.pack.runOn } } ∧
    t.wl = { s.wl with
      heat := if s.wl.up = true ∨ s.wl.down = true then min s.cfg.limits.tMax (s.wl.heat + 1)
        else if 3 ≤ s.wl.coolMs then s.wl.heat - 1 else s.wl.heat
      coolMs := if s.wl.up = true ∨ s.wl.down = true ∨ 3 ≤ s.wl.coolMs then 0 else s.wl.coolMs + 1
      phaseMs := if s.wl.state = .braking ∨ s.wl.state = .jogging then s.wl.phaseMs + 1 else s.wl.phaseMs
      quietMs := s.wl.quietMs + 1
      creep := s.wl.creep.map fun b => (b.1, b.2 + 1)
      stall := s.wl.stall.map fun b => (b.1 + 1, b.2) } ∧
    t.panel = { s.panel with slotMs := s.panel.slotMs.map (· + 1), panels := t.panel.panels } ∧
    (∀ p, t.entry p = { s.entry p with
      holdings := (s.entry p).holdings.map fun h => { h with deadman := h.deadman - 1 } }) ∧
    t.bind = { s.bind with flashes := s.bind.flashes.map fun e => (e.1, e.2 - 1) } ∧
    t.link = { s.link with
      supervision := if s.link.device = .linked then s.link.supervision.map (· - 1) else s.link.supervision
      aloneMs := if s.link.device = .standalone then s.link.aloneMs + 1 else s.link.aloneMs
      sending := s.link.sending.map fun f => { f with ms := f.ms + 1 } } ∧
    t.pending = dueList { t with pending := [] } ∧ (∀ c, c ∈ t.pending ↔ DueAt t c)

/-- Every command is carried out, and none of them touches the commands that wait behind it. -/
def Obligations.EveryCommandIsCarriedOut : Prop :=
  ∀ (c : Instr) (s : State), ∃ t, exec c s = .next t ∧ t.pending = s.pending

/-- The model's choice (log 3): a command that names the end of a timer changes nothing while that timer is
absent. -/
def Obligations.NothingEndsThatDoesNotRun : Prop :=
  ∀ s : State,
    (∀ i : Fin 24, s.chan[i].fade = none → s.scene.idleWork = [] → exec (.fadeStep i) s = .next s) ∧
    (∀ p : Fin 4, (s.player p).state ≠ .dwell → s.scene.idleWork = [] → exec (.dwellEnd p) s = .next s) ∧
    (s.scene.assembly = none → exec .writeLapsed s = .next s) ∧
    (∀ i : Fin 24, s.chan[i].fault ≠ .tripped → exec (.channelRetry i) s = .next s) ∧
    (∀ i : Fin 24, s.chan[i].retry = 0 → exec (.tripSeriesQuiet i) s = .next s) ∧
    (∀ i : Fin 24, s.chan[i].runMs = none → exec (.pairTimeout i) s = .next s) ∧
    (s.beacon.blinking = false → exec .beaconBlinkHalf s = .next s) ∧
    (s.beacon.stretch = none → exec .beaconStretchEnd s = .next s) ∧
    (s.budget.dwell = none → exec .supplyToBrownout s = .next s ∧ exec .stateNormal s = .next s ∧
      exec .stateCritical s = .next s) ∧
    (s.vessel.fresh = none → exec .stalenessTimerExpiry s = .next s) ∧
    (∀ a, (s.axis a).state ≠ .unlatching → exec (.unlatchTimeout a) s = .next s) ∧
    (∀ a, (s.axis a).state ≠ .latching → exec (.latchTimeout a) s = .next s) ∧
    (∀ a, (s.axis a).state.driving = false →
      exec (.runTimeout a) s = .next s ∧ exec (.noProgress a) s = .next s) ∧
    (∀ a, (s.axis a).cooldown = none → exec (.cooldownEnd a) s = .next s) ∧
    (s.stern.pack.pump ≠ .lead → exec .pumpLeadEnd s = .next s) ∧
    (s.stern.pack.pump ≠ .runOn → exec .runOnEnd s = .next s) ∧
    (s.wl.state ≠ .braking → exec .brakingEnd s = .next s) ∧
    (s.wl.brakeFree = false → exec .brakeFreeDelayEnd s = .next s) ∧
    (s.wl.state ≠ .jogging → exec .jogOnEnd s = .next s ∧ exec .jogOffEnd s = .next s) ∧
    (s.wl.state.powered = false → exec .disagreementQuiet s = .next s ∧ exec .stall s = .next s ∧
      exec .thermalLockout s = .next s) ∧
    (s.wl.state ≠ .lockout → exec .lockoutEnd s = .next s) ∧
    (s.wl.creep = none → exec .creepEnd s = .next s) ∧
    (s.dev.cellWrite = none → exec .countCellWriteDone s = .next s) ∧
    (s.dev.commit = none → ∀ e, exec (.commitSectionDone e) s = .next s) ∧
    (s.panel.call = none → exec .missedAnswer s = .next s ∧ ∀ f, exec (.capability f) s = .next s ∧
      exec (.short f) s = .next s ∧ exec (.ack f) s = .next s ∧ exec (.keys f) s = .next s) ∧
    (s.link.device ≠ .linked → exec .supervisionExpiry s = .next s) ∧
    (s.startUpOver = false → exec .startUpInputsSettled s = .next s)

/-! ### What every step keeps -/

/-- The five invariants hold right after reset. -/
def Obligations.ResetIsSafe : Prop :=
  State.reset.OneMoves ∧ State.reset.Bounded ∧ State.reset.PairsApart ∧ State.reset.ConfigInRange ∧
    State.reset.BeaconAgrees

/-- The platform and the hatch are never both in a moving phase. -/
def Obligations.OneAxisMovesAtATime : Prop :=
  Kept State.OneMoves

/-- The notice queue, the request list, the event list and the start-up list stay within their sizes, and the
chain count within 0..9999. -/
def Obligations.ListsStayBounded : Prop :=
  Kept State.Bounded

/-- The two channels of a matched pair are never both at level 1000. -/
def Obligations.PairsStayApart : Prop :=
  Kept State.PairsApart

/-- The configuration in force stays within its ranges and its constraints. -/
def Obligations.ConfigurationStaysInRange : Prop :=
  Kept State.ConfigInRange

/-! ### Resets and start-up -/

/-- A power-on, or a dip of the logic supply, takes every block to its reset values with the uptime at 0 and the
device STARTING; the nonvolatile memory keeps what it held, and STARTED is the one notice queued, stamped 0 (log
25). The figures of the last evaluation and the holder of the sequence are the model's (log 6). The pins and the
chain phases keep their levels (log 13), and the model's count of races its figure (log 11). Each section loads
when it is whole and within its ranges, and takes its factory defaults otherwise, apart from every other
section; STARTED carries the set of those that took them as a number with bit n set for section n (the model's
choice, log 92). -/
def Obligations.ResetLoadsTheStoredSections : Prop :=
  (∀ (s : State) (c : ResetCause) (i : Instr), (i = .powerOn ∧ c = .powerOn) ∨ (i = .supplyDip ∧ c = .supplyDip) →
     ∃ t, exec i s = .next t ∧
       t.nv = s.nv ∧ t.cfg = loadCfg s.nv ∧ t.pending = s.pending ∧
       (∀ k : Fin 24, t.chan[k] =
         { owner := if t.cfg.channels.ch[k].type = .beacon then Owner.beacon else Owner.none : Channel }) ∧
       t.beacon = {} ∧ t.budget = {} ∧ t.scene = {} ∧ t.vessel = {} ∧ t.stern = {} ∧ t.wl = {} ∧ t.panel = {} ∧
       t.bind = {} ∧ t.inp.ai = Vector.replicate 4 {} ∧ t.inp.chain = { sensor := s.inp.chain.sensor } ∧
       (∀ n : Fin 16, t.inp.di[n] = { pin := s.inp.di[n].pin : DiRt }) ∧
       t.dev = { cause := c, defaulted := defaultedSet s.nv, markFound := s.nv.mark, races := s.dev.races } ∧
       t.link = { queue := [⟨0, .started, 0, [codeIn resetCauses c, s.nv.mark.toNat, defaultedSet s.nv]⟩] }) ∧
  (∀ n : Nv,
     ((loadCfg n).general = match n.general with | some g => if g.ok then g else {} | none => {}) ∧
     ((loadCfg n).channels = match n.channels with | some g => if g.ok then g else {} | none => {}) ∧
     ((loadCfg n).scenes = match n.scenes with
       | some v => if scenesOk v then v else Vector.replicate 64 none | none => Vector.replicate 64 none) ∧
     ((loadCfg n).bindings = match n.bindings with
       | some v => if bindingsOk v then v else Vector.replicate 64 {} | none => Vector.replicate 64 {}) ∧
     ((loadCfg n).panels = match n.panels with | some g => if g.ok then g else {} | none => {}) ∧
     ((loadCfg n).axes = match n.axes with | some g => if g.ok then g else {} | none => {}) ∧
     ((loadCfg n).windlass = match n.windlass with | some g => if g.ok then g else {} | none => {}) ∧
     ((loadCfg n).supply = match n.supply with | some g => if g.ok then g else {} | none => {}) ∧
     ((loadCfg n).limits = match n.limits with | some g => if g.ok then g else {} | none => {}))

/-- The end of start-up, with no binding enabled: STANDALONE; each axis takes its state from its inputs, FAULT,
STOWED or HALTED (R117); the count is restored from the cell, or is 0 DRIFTED, or 0 VERIFIED at the home switch
(R145); the chain decoder starts from the sensor state it sees, with its accumulator at 0 (R73); without a
BUS_VOLTAGE value, also where there has been no conversion yet (log 25), the supply state is BROWNOUT, held
(R36). -/
def Obligations.StartUpEndsInStandalone : Prop :=
  ∀ s : State, s.startUpOver = true → s.Unbound → s.bind.acting = none → s.bind.events = [] →
    ∃ t, exec .startUpInputsSettled s = .next t ∧
      t.link.device = .standalone ∧ t.link.aloneMs = 0 ∧ t.inp.chain = { running := true, sensor := s.inp.chain.sensor } ∧
      t.bind.startUp = [] ∧ t.cfg = s.cfg ∧ t.nv = s.nv ∧
      (∀ a, (t.axis a).state =
        if (s.position a).isNone then .fault
        else if s.roleActive (stowRole a) = true ∧ s.roleActive (latchRole a) = false then .stowed
        else .halted) ∧
      (∀ a, s.position a = none → (t.axis a).fault = some ⟨.positionSensor, .halted, none, 0, 0⟩) ∧
      t.wl.count = (if s.roleActive .anchorHome then 0 else (cellCount s.nv).getD 0) ∧
      t.wl.status = (if s.roleActive .anchorHome then .verified
        else if (cellCount s.nv).isSome then .restored else .drifted) ∧
      t.vessel.anchored = t.isAnchored ∧
      (s.analogValue .busVoltage = none → s.budget.held = false →
        t.budget.supply = .brownout ∧ t.budget.held = true) ∧
      (s.analogValue .busVoltage ≠ none → t.budget.supply = s.budget.supply) ∧
      t.budget.last = evalFigures t

/-! ### The command link -/

/-- A good frame, its bytes arriving in HUNT: the receiver is back in HUNT; in STANDALONE the device becomes
LINKED with HOST_BACK, in LINKED the supervision timer starts again, in STARTING neither; the request joins the
request list, or is dropped and counted when the list is full. A frame whose check differs, and a frame that is
cut by a LENGTH above 240, by a framing error or by a gap, is discarded and counted, and the receiver hunts;
nothing else changes. A framing error and a gap cut a frame wherever it stands: right after SYNC, in its header or
its payload, and with all but its check arrived. The byte that ends a gap begins a new frame where it is SYNC. All
bytes of a command arrive at the one present uptime, and a gap is what the command says it is: the model's choice
(log 22). -/
def Obligations.FramesAreReceived : Prop :=
  (∀ (s : State) (kind tag : Byte) (payload : List Byte), payload.length ≤ 240 → s.link.rx.state = .hunt →
     s.Unwatched → s.link.resetReply = false →
     let rx := { s.link.rx with held := [], lastAt := s.dev.uptime }
     let u := { s with link := { s.link with rx := rx } }
     let v := match s.link.device with
       | .starting => u
       | .linked => { u with link := { u.link with supervision := s.supervisionStart } }
       | .standalone =>
         notice .hostBack 0 [s.link.aloneMs, if s.link.wasLinked then 1 else 0]
           { u with link := { u.link with
               device := .linked, supervision := s.supervisionStart, wasLinked := true, aloneMs := 0 } }
     exec (.goodFrame (linkFrame kind tag payload)) s = .next
       (if s.link.requests.length < 3 then
         { v with link := { v.link with requests := s.link.requests ++ [⟨kind, tag, payload⟩] } }
       else { v with link := { v.link with rx := { rx with dropped := min 65535 (rx.dropped + 1) } } })) ∧
  (∀ s : State, s.link.rx.state = .hunt →
     let held := { s.link.rx with held := [], lastAt := s.dev.uptime }
     (∀ (kind tag c : Byte) (payload : List Byte), payload.length ≤ 240 →
       let body := byteOf payload.length :: kind :: tag :: payload
       c ≠ crc8 body → exec (.frameCheckFailed (0xC3 :: body ++ [c])) s = .next
         { s with link := { s.link with
           rx := { held with checkFailures := min 65535 (s.link.rx.checkFailures + 1) } } }) ∧
     (∀ len : Byte, 240 < len.toNat → exec (.frameCut [0xC3, len] .oversize) s = .next
         { s with link := { s.link with rx := { held with cutFrames := min 65535 (s.link.rx.cutFrames + 1) } } }) ∧
     (∀ part : List Byte,
       part = [] ∨ (∃ len more, part = len :: more ∧ len.toNat ≤ 240 ∧ more.length ≤ len.toNat + 2) →
       exec (.frameCut (0xC3 :: part) .framingError) s = .next
         { s with link := { s.link with rx := { held with cutFrames := min 65535 (s.link.rx.cutFrames + 1) } } } ∧
       ∀ next : Byte, exec (.frameCut (0xC3 :: part) (.gap next)) s = .next
         { s with link := { s.link with rx :=
           { held with cutFrames := min 65535 (s.link.rx.cutFrames + 1),
                       state := if next = 0xC3 then .header else .hunt } } }))

/-- Supervision expires in LINKED: STANDALONE with the timer stopped, the notice HOST_LOST, and a FRESH record
becomes STALE. With no permit term and no binding enabled the motion blocks make of it: an axis that the host
moves is stopped, which leaves it HALTED, or EXTENDED at its out end, from EXTENDING or RETRACTING, in LATCHING,
or STOWED where its latch has closed, from UNLATCHING, and still in LATCHING there; so is the step axis of a
sequence that the host holds, and the sequence is ABORTED; one with another holder goes on. A windlass run of
the host's, or of BINDING_AUTO, enters BRAKING toward IDLE; a run with another holder goes on. -/
def Obligations.SupervisionExpiryStandsAlone : Prop :=
  ∀ s : State, s.link.device = .linked → s.link.supervision = some 0 → s.Unwatched → s.Unbound → s.Between →
    let stopped (a : AxisId) (t : State) :=
      ((s.axis a).state.driving = true →
        (t.axis a).state = (if s.roleActive (outRole a) then .extended else .halted) ∧
        (t.axis a).holder = .none ∧ t.stern.pack.valve = none ∧ t.stern.pack.flow = 0) ∧
      ((s.axis a).state = .unlatching →
        (t.axis a).state = (if s.roleActive (latchRole a) then .latching else .stowed) ∧
        (t.axis a).holder = .none ∧ (t.axis a).latchHold = false ∧ t.budget.res.stern = none) ∧
      ((s.axis a).state = .latching → t.axis a = { s.axis a with holder := .none })
    ∃ t, exec .supervisionExpiry s = .next t ∧
      t.link.device = .standalone ∧ t.link.supervision = none ∧ t.link.aloneMs = 0 ∧ t.vessel.fresh = none ∧
      Gives .hostLost 0 [s.cfg.general.supervision] s t ∧
      (s.vessel.fresh.isSome → t.vessel.active = .battery) ∧
      (s.stern.seq.running = false →
        (∀ a, (s.axis a).holder = .host → stopped a t) ∧
        (∀ a, (s.axis a).holder ≠ .host → (s.axis a).holder ≠ .sequence → t.axis a = s.axis a)) ∧
      (∀ a, s.stern.seq.running = true → s.stern.seq.holder = .host → s.stern.seq.axis = some a →
        (s.axis a).holder = .sequence → (s.axis a).state.moving = true →
        (s.axis (otherAxis a)).holder ≠ .host → (s.axis (otherAxis a)).holder ≠ .sequence →
        stopped a t ∧ t.stern.seq.state = .aborted ∧ t.stern.seq.ended = some (s.stern.seq.step, .stopped) ∧
        t.axis (otherAxis a) = s.axis (otherAxis a)) ∧
      (s.stern.seq.running = true → s.stern.seq.holder ≠ .host → (∀ a, (s.axis a).holder ≠ .host) →
        t.stern.seq = s.stern.seq ∧ ∀ a, t.axis a = s.axis a) ∧
      (s.wl.state.running = true → s.wl.holder = .host ∨ s.wl.holder = .bindingAuto →
        t.wl.state = .braking ∧ t.wl.brakingEnd = some .idle ∧ t.wl.up = false ∧ t.wl.down = false) ∧
      (s.wl.holder ≠ .host → s.wl.holder ≠ .bindingAuto → t.wl = s.wl)

/-- The transmitter sends one whole frame at a time: a frame in flight is left alone until its last byte has gone,
which is after the frame's time on the line in ms (the model's choice, log 26). Free, it takes the oldest formed
reply, else in LINKED the oldest notice, else nothing; so it does as a frame ends, at once (the model's choice, log
110). A notice leaves the queue when the last byte of its frame has gone, and a reply is done with then; after the
reply of a RESET the part resets with cause RESET_REQUEST. -/
def Obligations.TransmitterTakesTurns : Prop :=
  ∀ s : State,
    (∀ r rest, s.link.sending = none → s.link.replies = r :: rest →
      exec .replyOrNoticeSent s = .next { s with link := { s.link with sending := some ⟨false, r.bytes, 0⟩ } }) ∧
    (∀ n rest, s.link.sending = none → s.link.replies = [] → s.link.queue = n :: rest →
      s.link.device = .linked → s.link.resetReply = false →
      exec .replyOrNoticeSent s = .next { s with link := { s.link with sending := some ⟨true, n.bytes, 0⟩ } }) ∧
    (s.link.sending = none → s.link.replies = [] →
      s.link.queue = [] ∨ s.link.device ≠ .linked ∨ s.link.resetReply = true →
      exec .replyOrNoticeSent s = .next s) ∧
    (∀ f, s.link.sending = some f → f.ms < lineTime f.bytes.length → exec .replyOrNoticeSent s = .next s) ∧
    (∀ f r more n rest, s.link.sending = some f → lineTime f.bytes.length ≤ f.ms → f.notice = true →
      s.link.replies = r :: more → s.link.queue = n :: rest → exec .replyOrNoticeSent s = .next
        { s with link := { s.link with sending := some ⟨false, r.bytes, 0⟩, queue := rest } }) ∧
    (∀ f n m rest, s.link.sending = some f → lineTime f.bytes.length ≤ f.ms → f.notice = true →
      s.link.replies = [] → s.link.queue = n :: m :: rest → s.link.device = .linked → s.link.resetReply = false →
      exec .replyOrNoticeSent s = .next
        { s with link := { s.link with sending := some ⟨true, m.bytes, 0⟩, queue := m :: rest } }) ∧
    (∀ f r r' more, s.link.sending = some f → lineTime f.bytes.length ≤ f.ms → f.notice = false →
      s.link.replies = r :: r' :: more → r.isReset = false → exec .replyOrNoticeSent s = .next
        { s with link := { s.link with sending := some ⟨false, r'.bytes, 0⟩, replies := r' :: more } }) ∧
    (∀ f r n rest, s.link.sending = some f → lineTime f.bytes.length ≤ f.ms → f.notice = false →
      s.link.replies = [r] → r.isReset = false → s.link.queue = n :: rest → s.link.device = .linked →
      s.link.resetReply = false → exec .replyOrNoticeSent s = .next
        { s with link := { s.link with sending := some ⟨true, n.bytes, 0⟩, replies := [] } }) ∧
    (∀ f n rest, s.link.sending = some f → lineTime f.bytes.length ≤ f.ms → f.notice = true →
      s.link.replies = [] → s.link.queue = n :: rest → rest = [] ∨ s.link.device ≠ .linked →
      exec .replyOrNoticeSent s = .next { s with link := { s.link with sending := none, queue := rest } }) ∧
    (∀ f r, s.link.sending = some f → lineTime f.bytes.length ≤ f.ms → f.notice = false →
      s.link.replies = [r] → r.isReset = false → s.link.queue = [] ∨ s.link.device ≠ .linked →
      exec .replyOrNoticeSent s = .next { s with link := { s.link with sending := none, replies := [] } }) ∧
    (∀ f r rest, s.link.sending = some f → lineTime f.bytes.length ≤ f.ms → f.notice = false →
      s.link.replies = r :: rest → r.kind = 0x03 → r.status = .ok →
      exec .replyOrNoticeSent s = .next (resetWith .resetRequest s))

/-- A notice of an enabled class joins the queue at its tail with the present uptime; with 32 queued it is
discarded and the overflow flag is set; one of a disabled class leaves no trace. -/
def Obligations.NoticesQueueInOrder : Prop :=
  ∀ (n : Note) (subject : Nat) (values : List Int) (s : State),
    (s.link.enabled.getLsbD (codeIn nClasses n.cls) = true → s.link.queue.length < 32 →
      notice n subject values s = { s with link := { s.link with
        queue := s.link.queue ++ [⟨s.dev.uptime, n, subject, values⟩] } }) ∧
    (s.link.enabled.getLsbD (codeIn nClasses n.cls) = true → 32 ≤ s.link.queue.length →
      notice n subject values s = { s with link := { s.link with overflow := true } }) ∧
    (s.link.enabled.getLsbD (codeIn nClasses n.cls) = false → notice n subject values s = s)

/-! ### Requests -/

/-- A kind outside the catalogue is answered UNKNOWN_KIND, and a LENGTH that the kind does not allow BAD_LENGTH;
the reply carries the request's tag, and nothing else changes. In STARTING every request but GET_STATUS is
answered NOT_READY and changes nothing. RESET is answered OK outside STARTING, and then no request is taken, and
no good frame. A SCENE_WRITE part so refused carries the rows received and the used count beside its status: the
rows are those of the open assembly, whatever slot the part names (the model's choice, log 40); a part byte that is
neither 0 nor 1 has the LENGTH of a first part (the model's choice, log 63). -/
def Obligations.RequestsAreTakenInOrder : Prop :=
  ((∀ (q : Req) (kind : Byte) (s : State), s.link.resetReply = false → kind.toNat = 0 ∨ 0x21 < kind.toNat →
     exec (.requestUnknownKind q kind) s = .next (withReply kind q (Ans.refused .unknownKind) s)) ∧
   (∀ (c : Instr) (kind : Byte) (q : Req) (s : State), requestForm c = some (kind, q, false) →
     s.link.resetReply = false → exec c s = .next (withReply kind q (refusedBefore kind .badLength s) s))) ∧
  (∀ (c : Instr) (kind : Byte) (q : Req) (s : State), requestForm c = some (kind, q, true) →
     kind ≠ 0x01 → s.starting = true → s.link.resetReply = false →
     exec c s = .next (withReply kind q (refusedBefore kind .notReady s) s)) ∧
  ((∀ (q : Req) (s : State), q.len = 0 → s.Takes → exec (.reset q) s = .next
     { withReply 0x03 q Ans.ok s with link := { (withReply 0x03 q Ans.ok s).link with resetReply := true } }) ∧
   (∀ (c : Instr) (kind : Byte) (q : Req) (fits : Bool) (s : State), requestForm c = some (kind, q, fits) →
     s.link.resetReply = true → exec c s = .next s) ∧
   (∀ (q : Req) (kind : Byte) (s : State), s.link.resetReply = true →
     exec (.requestUnknownKind q kind) s = .next s) ∧
   (∀ (f : Frame) (s : State), s.link.resetReply = true → placeRequest f s = s))

/-- The nine requests that only read are answered OK with their fields, as they stand once the request has left the
list, and change nothing else. A read that names no channel, player, axis, slot, binding or item is answered
OUT_OF_RANGE, one of an empty slot NOT_FOUND, one of a row that the scene has not OUT_OF_RANGE; nothing else
changes. GET_STATUS is taken in every device state: it answers the status as it stands and clears the overflow
flag, whose earlier value it carries. Layouts that the spec leaves open are the model's (logs 15, 46, 62, 64, 69,
72, 81, 82, 87, 91, 92, 111 and 112), and so are the phase timer of an axis at rest (log 74), the coding of a
sequence's end cause (log 19) and the cooldown in whole seconds, rounded up (log 23). -/
def Obligations.ReadsAreAnswered : Prop :=
  (∀ (q : Req) (s : State), s.Takes →
     (∀ ch : Fin 24, q.len = 1 → exec (.channelGet q ch) s = .next
       (withReply 0x05 q ⟨.ok, 0, channelBytes ch s⟩ s)) ∧
     (∀ p : Fin 4, q.len = 1 → exec (.playerGet q p) s = .next (withReply 0x0C q ⟨.ok, 0, playerBytes p s⟩ s)) ∧
     (q.len = 0 → exec (.budgetGet q) s = .next (withReply 0x0D q ⟨.ok, 0, budgetBytes s⟩ s)) ∧
     (∀ a, q.len = 1 → exec (.axisGet q (axisIdx a)) s = .next (withReply 0x12 q ⟨.ok, 0, axisBytes a s⟩ s)) ∧
     (q.len = 0 → exec (.windlassGet q) s = .next (withReply 0x16 q ⟨.ok, 0, windlassBytes s⟩ s)) ∧
     (q.len = 0 → exec (.panelList q) s = .next (withReply 0x19 q (panelListAns s) s)) ∧
     (∀ i : Fin 64, q.len = 1 → exec (.bindingRead q i) s = .next
       (withReply 0x1D q ⟨.ok, 0, s.cfg.bindings[i].bytes i ++ le16 s.bind.counts[i]⟩ s)) ∧
     (∀ sec item it, q.len = 2 → itemAt sec item = some it →
       exec (.configRead q sec item) s = .next (withReply 0x1F q ⟨.ok, 0, it.read s.cfg⟩ s)) ∧
     (∀ (slot : Fin 64) (first : Nat) (r : SceneRec), q.len = 2 → s.cfg.scenes[slot] = some r → first < r.steps →
       exec (.sceneRead q slot first) s = .next (withReply 0x08 q ⟨.ok, 0, r.bytesFrom slot first⟩ s))) ∧
  (∀ (q : Req) (s : State), s.Takes →
     let refused (k : Byte) := Host.Outcome.next (φ := Fault) (ρ := Refusal)
       (withReply k q (Ans.refused .outOfRange) s)
     (∀ ch, q.len = 1 → 24 ≤ ch → exec (.channelGet q ch) s = refused 0x05) ∧
     (∀ p, q.len = 1 → 4 ≤ p → exec (.playerGet q p) s = refused 0x0C) ∧
     (∀ a, q.len = 1 → 2 ≤ a → exec (.axisGet q a) s = refused 0x12) ∧
     (∀ i, q.len = 1 → 64 ≤ i → exec (.bindingRead q i) s = refused 0x1D) ∧
     (∀ sec item, q.len = 2 → itemAt sec item = none → exec (.configRead q sec item) s = refused 0x1F) ∧
     (∀ slot first, q.len = 2 → 64 ≤ slot → exec (.sceneRead q slot first) s = refused 0x08) ∧
     (∀ (slot : Fin 64) (first : Nat) (r : SceneRec), q.len = 2 → s.cfg.scenes[slot] = some r → r.steps ≤ first →
       exec (.sceneRead q slot first) s = refused 0x08) ∧
     (∀ (slot : Fin 64) (first : Nat), q.len = 2 → s.cfg.scenes[slot] = none →
       exec (.sceneRead q slot first) s = .next (withReply 0x08 q (Ans.refused .notFound) s))) ∧
  (∀ (q : Req) (s : State), q.len = 0 → s.link.resetReply = false →
     exec (.getStatus q) s = .next
       (formReply 0x01 q.tag ⟨.ok, 0, statusBytes s⟩
         { s.taken 0x01 q with link := { (s.taken 0x01 q).link with overflow := false } }))

/-- SET_VESSEL_DATA: the speed is held to 999, the record becomes FRESH for 3000 ms, the active source follows
R78; an unknown source is refused and changes nothing. -/
def Obligations.VesselDataMakesTheRecordFresh : Prop :=
  ∀ (q : Req) (s : State), q.len = 3 → s.Takes →
    (∀ (speed : Nat) (src : Source), s.Unwatched → ∃ t,
      exec (.setVesselData q speed (codeIn sources src)) s = .next t ∧
      t.vessel = { s.vessel with
        speed := min speed 999, source := src, fresh := some 3000,
        active := if s.roleActive .shorePresent ∧ s.cfg.general.shoreInputWins then .shore else src } ∧
      t.link.replies = s.link.replies ++ [⟨0x02, q.tag, .ok, 0, []⟩] ∧
      t.cfg = s.cfg ∧ t.stern = s.stern ∧ t.wl = s.wl ∧ t.scene = s.scene ∧ t.inp = s.inp ∧ t.panel = s.panel ∧
      t.bind = s.bind ∧ t.nv = s.nv ∧ t.link.device = s.link.device) ∧
    (∀ (speed source : Nat), 4 ≤ source →
      exec (.setVesselData q speed source) s = .next (withReply 0x02 q (Ans.refused .outOfRange) s))

/-- NOTICE_ENABLE replaces the enabled set and answers it; what is queued stays; a set that names a class
outside the ten is refused and changes nothing; in STARTING it is refused with NOT_READY; a reset enables all
classes but INPUT and KEY. -/
def Obligations.NoticeEnableReplacesTheSet : Prop :=
  (∀ (q : Req) (set : Nat) (s : State), q.len = 2 → s.Takes → set < 1024 →
    exec (.noticeEnable q set) s = .next
      { withReply 0x21 q ⟨.ok, 0, le16 set⟩ s with link :=
        { (withReply 0x21 q ⟨.ok, 0, le16 set⟩ s).link with enabled := BitVec.ofNat 10 set } }) ∧
  (∀ (q : Req) (set : Nat) (s : State), q.len = 2 → s.Takes → 1024 ≤ set →
    exec (.noticeEnable q set) s = .next (withReply 0x21 q (Ans.refused .outOfRange) s)) ∧
  (∀ (q : Req) (set : Nat) (s : State), q.len = 2 → s.starting = true → s.link.resetReply = false →
    exec (.noticeEnable q set) s = .next (withReply 0x21 q (Ans.refused .notReady) s)) ∧
  (∀ (c : ResetCause) (s : State) (n : NClass),
    (resetWith c s).link.enabled.getLsbD (codeIn nClasses n) = (n != .input && n != .key))

/-! ### Load channels -/

/-- CHANNEL_SET of a channel that no player owns: the host takes it and its fade starts, or its level is set at
once where the fade time is 0 or the channel is not DIMMED. The beacon channel is IN_USE, and a channel above 23
OUT_OF_RANGE; then nothing changes. CHANNEL_SET of a channel that a player runs: the player drops it from its
active and its waiting set and goes on with the rest. Where the channel was the last one waited for, in FADING
or STOPPING, that completes the player's fades: a STOPPING player is IDLE, STOPPED, one in its end fade or of a
STATIC scene IDLE, COMPLETED, one of a SEQUENCE in DWELL. With its last channel gone it is IDLE, SUPERSEDED, and
gives PLAYER_DONE. -/
def Obligations.ChannelSetIsTaken : Prop :=
  (∀ (q : Req) (s : State), q.len = 5 → s.Takes → s.scene.idleWork = [] →
     (∀ (i : Fin 24) (l f : Nat), s.chan[i].owner ≠ .beacon → (∀ p, s.chan[i].owner ≠ .player p) →
       exec (.channelSet q i l f) s = .next (formReply 0x04 q.tag Ans.ok
         (if (s.chCfg i).type = .dimmed ∧ 0 < f then
           (s.taken 0x04 q).setChan i { s.chan[i] with
             owner := .hostDirect,
             fade := some { start := s.chan[i].level, target := min l 1000, elapsed := 0, time := min f 60000,
                            since := 0 } }
         else
           setLevel i l ((s.taken 0x04 q).setChan i { s.chan[i] with owner := .hostDirect, fade := none })))) ∧
     (∀ (i : Fin 24) (l f : Nat), s.chan[i].owner = .beacon →
       exec (.channelSet q i l f) s = .next (withReply 0x04 q (Ans.refused .inUse) s)) ∧
     (∀ ch l f, 24 ≤ ch →
       exec (.channelSet q ch l f) s = .next (withReply 0x04 q (Ans.refused .outOfRange) s))) ∧
  (∀ (q : Req) (s : State) (i : Fin 24) (p : Fin 4) (l f : Nat), q.len = 5 → s.Takes → s.Calm →
     s.chan[i].owner = .player p → (s.chCfg i).type = .dimmed → 0 < f →
     (let x := s.player p
      let gone : Player := { x with active := x.active.erase i.val, waiting := x.waiting.erase i.val }
      let after (P : State → Prop) := ∃ t, exec (.channelSet q i l f) s = .next t ∧ t.chan[i].owner = .hostDirect ∧
        t.chan[i].level = s.chan[i].level ∧ (∀ p' : Fin 4, p' ≠ p → t.player p' = s.player p') ∧
        t.link.replies = s.link.replies ++ [⟨0x04, q.tag, .ok, 0, []⟩] ∧ P t
      let idle (o : PlayerOutcome) (t : State) := (t.player p).state = .idle ∧ (t.player p).outcome = o ∧
        (t.player p).active = [] ∧ (t.player p).waiting = []
      i.val ∈ x.active → gone.active ≠ [] →
        (i.val ∉ x.waiting ∨ gone.waiting ≠ [] ∨ (x.state ≠ .fading ∧ x.state ≠ .stopping) →
          after fun t => t.player p = gone) ∧
        (i.val ∈ x.waiting → gone.waiting = [] → x.pendingTrig = none → x.active.Nodup →
          (x.state = .stopping → after (idle .stopped)) ∧
          (x.state = .fading → x.endFade = true → after (idle .completed)) ∧
          (∀ slot r, x.state = .fading → x.endFade = false → x.scene = some slot → s.sceneAt slot = some r →
            (r.kind = .static → after (idle .completed)) ∧
            (r.kind = .sequence → after fun t =>
              t.player p = { gone with state := .dwell, dwell := some r.dwell })))) ∧
     ((s.player p).active = [i.val] → (s.player p).state ≠ .idle → (s.player p).pendingTrig = none →
       ∃ t, exec (.channelSet q i l f) s = .next t ∧ t.chan[i].owner = .hostDirect ∧
         (t.player p).state = .idle ∧ (t.player p).outcome = .superseded ∧ (t.player p).active = [] ∧
         (t.player p).scene = none ∧
         t.link.queue = (notice .playerDone p [(s.player p).scene.getD 255, codeIn playerOutcomes .superseded,
           (s.player p).repeats, value2 (s.player p).source.pair] s).link.queue))

/-- A level set: clamped by the channel's type; in a matched pair a set to 1000 turns a partner at 1000 to 0 at
once, with its owner kept, and the pair's outputs are held off by the dead time; no other channel's level moves.
The two outputs of a pair are never on together. A pair's dead time ends after 500 ms and then holds neither
channel off; a pair channel that reaches its run time goes to level 0 with its owner kept, its run timer gone,
the dead time started and the notice PAIR_TIMEOUT given; so does an unmatched one, which has no dead time and whose
drive ends with the running period. The timer is kept at the pair's PAIR_A channel (log 14). -/
def Obligations.MatchedPairsExclude : Prop :=
  (∀ (i : Fin 24) (l : Nat) (s : State),
     (setLevel i l s).chan[i].level =
       (if (s.chCfg i).type = .dimmed ∨ (s.chCfg i).type = .unused then min l 1000
        else if l = 0 then 0 else 1000) ∧
     (∀ j : Fin 24, s.matched i j = true → l ≠ 0 → s.chan[j].level = 1000 →
       (setLevel i l s).chan[j].level = 0 ∧ (setLevel i l s).chan[j].pwm = 0 ∧
       (setLevel i l s).chan[j].owner = s.chan[j].owner ∧
       (setLevel i l s).heldOff i = true ∧ (setLevel i l s).heldOff j = true) ∧
     (∀ j : Fin 24, j ≠ i → s.matched i j = false → (setLevel i l s).chan[j].level = s.chan[j].level) ∧
     ((s.chCfg i).type.isPair = true → (setLevel i l s).chan[i].runMs = if l = 0 then none else some 0)) ∧
  (∀ (i j : Fin 24) (s : State), s.PairsApart → s.matched i j = true → ¬(s.gateOn i = true ∧ s.gateOn j = true)) ∧
  (∀ (i h : Fin 24) (s : State), s.pairHome i = some h →
     (∀ ms, s.chan[h].deadMs = some ms → 500 ≤ ms → ∃ t, exec (.pairDeadTimeEnd i) s = .next t ∧
       t = s.setChan h { s.chan[h] with deadMs := none } ∧ t.heldOff i = false) ∧
     (∀ ms, s.chan[i].runMs = some ms → (s.chCfg i).runTime * 1000 ≤ ms → s.chan[i].level = 1000 →
       ∃ t, exec (.pairTimeout i) s = .next t ∧ t.chan[i].level = 0 ∧ t.chan[i].runMs = none ∧
         t.chan[i].owner = s.chan[i].owner ∧ t.chan[h].deadMs = some 0 ∧ t.heldOff i = true ∧
         Gives .pairTimeout i [(s.chCfg i).runTime] s t ∧
         (∀ j : Fin 24, j ≠ i → t.chan[j].level = s.chan[j].level) ∧ t.cfg = s.cfg ∧ t.stern = s.stern ∧ t.wl = s.wl)) ∧
  (∀ (i : Fin 24) (ms : Nat) (s : State), (s.chCfg i).type.isPair = true → s.pairHome i = none →
     s.chan[i].runMs = some ms → (s.chCfg i).runTime * 1000 ≤ ms → s.chan[i].level = 1000 →
     ∃ t, exec (.pairTimeout i) s = .next t ∧ t.chan[i].level = 0 ∧ t.chan[i].runMs = none ∧
       t.chan[i].owner = s.chan[i].owner ∧ t.chan[i].granted = 0 ∧ t.chan[i].pwm = s.chan[i].pwm ∧
       (∀ j : Fin 24, t.chan[j].deadMs = s.chan[j].deadMs) ∧ Gives .pairTimeout i [(s.chCfg i).runTime] s t ∧
       (∀ j : Fin 24, j ≠ i → t.chan[j].level = s.chan[j].level) ∧ t.cfg = s.cfg ∧ t.stern = s.stern ∧ t.wl = s.wl)

/-- CHANNEL_CLEAR_FAULT of a LATCHED channel: OK with no retry and no series, CLEARED, and then an evaluation (the
order of their notices is the model's, log 17); its level, its fade and its owner stay. In OK or TRIPPED it is
refused with NOT_FAULTED and changes nothing. -/
def Obligations.ClearFaultReleasesALatchedChannel : Prop :=
  ∀ (q : Req) (i : Fin 24) (s : State), q.len = 1 → s.Takes →
    (s.chan[i].fault = .latched → exec (.channelClearFault q i) s = .next (formReply 0x06 q.tag Ans.ok
      (evaluate (notice .cleared i [] ((s.taken 0x06 q).setChan i
        { s.chan[i] with fault := .ok, retry := 0, seriesStart := none, tripAge := none, overMs := none }))))) ∧
    (s.chan[i].fault ≠ .latched →
      exec (.channelClearFault q i) s = .next (withReply 0x06 q (Ans.refused .notFaulted) s)) ∧
    (∀ ch, 24 ≤ ch → exec (.channelClearFault q ch) s = .next (withReply 0x06 q (Ans.refused .outOfRange) s))

/-- A step of a running fade, 20 ms after the last, whoever owns the channel: the level is L0 + (L1 - L0) * t / F
truncated toward zero, with t capped at F; at t = F it is L1 and the fade is over. Before its end it tells no one. At
its end a player that owns the channel and waits for it waits no longer, and goes on as it was while it waits for
other channels, or is neither FADING nor STOPPING; what the last one waited for brings is RunsGoOnRowByRow's. A
player that does not wait for it disregards it. -/
def Obligations.FadesStepTowardTheirTarget : Prop :=
  ∀ (i : Fin 24) (f : Fade) (s : State), s.chan[i].fade = some f → 20 ≤ f.since → s.Between →
    let stepped (t : State) := exec (.fadeStep i) s = .next t ∧ t.chan[i].owner = s.chan[i].owner ∧
      (∀ j : Fin 24, j ≠ i → t.chan[j].level = s.chan[j].level ∧ t.chan[j].fade = s.chan[j].fade) ∧
      t.stern = s.stern ∧ t.wl = s.wl ∧ t.cfg = s.cfg
    let ended (t : State) := stepped t ∧ t.chan[i].level = f.target ∧ t.chan[i].fade = none
    (f.elapsed + 20 < f.time → ∃ t, stepped t ∧
      (t.chan[i].level : Int) =
        max 0 ((f.start : Int) + Int.tdiv (((f.target : Int) - f.start) * (f.elapsed + 20)) f.time) ∧
      t.chan[i].fade = some { f with elapsed := f.elapsed + 20, since := 0 } ∧ t.scene = s.scene) ∧
    (f.time ≤ f.elapsed + 20 → 0 < f.time →
      ((∀ p, s.chan[i].owner = .player p → i.val ∉ (s.player p).waiting) → ∃ t, ended t ∧ t.scene = s.scene) ∧
      (∀ p, s.chan[i].owner = .player p → i.val ∈ (s.player p).waiting →
        (s.player p).waiting.erase i.val ≠ [] ∨ ((s.player p).state ≠ .fading ∧ (s.player p).state ≠ .stopping) →
        ∃ t, ended t ∧ t.scene = (s.setPlayer p
          { s.player p with waiting := (s.player p).waiting.erase i.val }).scene))

/-- A short reported while the gate is driven trips the channel: the trip series is counted, the third trip within
60 s of its start is the last before LATCHED, the gate goes off, and an evaluation runs, the trip's own notice
before those of the evaluation (the model's choice, log 17). With the gate off the report changes nothing. -/
def Obligations.TripsAreCountedInASeries : Prop :=
  ∀ (i : Fin 24) (s : State),
    (s.gateOn i = false → exec (.shortCircuitReport i) s = .next s) ∧
    (s.gateOn i = true → (s.chan[i].retry = 0 ∨ 60000 ≤ s.sinceUptime (s.chan[i].seriesStart.getD s.dev.uptime)) →
      exec (.shortCircuitReport i) s = .next (evaluate (notice .tripped i [1, s.chan[i].current] (s.setChan i
        { s.chan[i] with fault := .tripped, retry := 1, seriesStart := some s.dev.uptime, tripAge := some 0,
                         overMs := none })))) ∧
    (s.gateOn i = true → ¬60000 ≤ s.sinceUptime (s.chan[i].seriesStart.getD s.dev.uptime) →
      (s.chan[i].retry = 1 ∨ s.chan[i].retry = 2) →
      exec (.shortCircuitReport i) s = .next (evaluate (notice .tripped i [s.chan[i].retry + 1, s.chan[i].current]
        (s.setChan i { s.chan[i] with fault := .tripped, retry := s.chan[i].retry + 1, tripAge := some 0,
                                      overMs := none })))) ∧
    (s.gateOn i = true → ¬60000 ≤ s.sinceUptime (s.chan[i].seriesStart.getD s.dev.uptime) → s.chan[i].retry = 3 →
      exec (.shortCircuitReport i) s = .next (evaluate (notice .latched i [s.chan[i].current]
        (s.setChan i { s.chan[i] with fault := .latched, tripAge := none, overMs := none })))) ∧
    (s.starting = true ∨ s.chan[i].fault ≠ .ok → s.gateOn i = false)

/-- 1000 ms after a trip into TRIPPED the channel is OK again with RETRIED and then an evaluation (the order of
their notices is the model's, log 17); 60 s without a trip end the series, in any fault state but LATCHED. 500 ms
of a current below the threshold set the open flag with OPEN_LOAD, and 500 ms at or above it clear the flag with
LOAD_RESTORED; nothing else of the channel changes. -/
def Obligations.RetriesAndOpenLoads : Prop :=
  (∀ (i : Fin 24) (ms : Nat) (s : State), s.chan[i].tripAge = some ms →
     (s.chan[i].fault = .tripped → 1000 ≤ ms → exec (.channelRetry i) s = .next
       (evaluate (notice .retried i [s.chan[i].retry] (s.setChan i { s.chan[i] with fault := .ok, overMs := none })))) ∧
     (s.chan[i].retry ≠ 0 → s.chan[i].fault ≠ .latched → 60000 ≤ ms → exec (.tripSeriesQuiet i) s = .next
       (s.setChan i { s.chan[i] with retry := 0, seriesStart := none, tripAge := none }))) ∧
  (∀ (i : Fin 24) (s : State), (s.chCfg i).openThr ≠ 0 → 500 ≤ s.chan[i].openMs →
     (s.chan[i].openFlag = false → s.chan[i].current < (s.chCfg i).openThr → exec (.openLoad i) s = .next
       (notice .openLoad i [s.chan[i].current] (s.setChan i { s.chan[i] with openFlag := true, openMs := 0 }))) ∧
     (s.chan[i].openFlag = true → (s.chCfg i).openThr ≤ s.chan[i].current → exec (.loadRestored i) s = .next
       (notice .loadRestored i [s.chan[i].current] (s.setChan i { s.chan[i] with openFlag := false, openMs := 0 }))))

/-- The beacon follows the machinery: activity starts the blinking with its on half, or goes on with one that
the stretch timer still keeps; the end of activity starts the stretch timer, or ends the blinking where it is 0.
The blink changes its half every 500 ms; when the stretch timer runs out the blinking ends and the beacon
channel's level becomes 0. Every step keeps the beacon in agreement with the machinery: its active mark is set just
while an axis is in a moving phase or the windlass runs, and it blinks just while that mark is set or the stretch
timer runs, which never both are. -/
def Obligations.BeaconFollowsTheMachinery : Prop :=
  Kept State.BeaconAgrees ∧
  (∀ s : State,
     (s.beaconActive = s.beacon.active → beaconUpdate s = s) ∧
     (s.beaconActive = true → s.beacon.active = false → s.beacon.blinking = true →
       beaconUpdate s = { s with beacon := { s.beacon with active := true, stretch := none } }) ∧
     (s.beaconActive = true → s.beacon.active = false → s.beacon.blinking = false →
       (beaconUpdate s).beacon = { active := true, blinking := true, halfOn := true } ∧
       ∀ i, s.beaconChannel = some i → (beaconUpdate s).chan[i].level = 1000) ∧
     (s.beaconActive = false → s.beacon.active = true → s.cfg.channels.beaconStretch ≠ 0 →
       beaconUpdate s = { s with beacon :=
         { s.beacon with active := false, stretch := some s.cfg.channels.beaconStretch } }) ∧
     (s.beaconActive = false → s.beacon.active = true → s.cfg.channels.beaconStretch = 0 →
       (beaconUpdate s).beacon = {} ∧ ∀ i, s.beaconChannel = some i → (beaconUpdate s).chan[i].level = 0)) ∧
  (∀ s : State,
     (s.beacon.blinking = true → 500 ≤ s.beacon.halfMs → exec .beaconBlinkHalf s = .next
       { s with beacon := { s.beacon with halfOn := !s.beacon.halfOn, halfMs := 0 } }) ∧
     (s.beacon.stretch = some 0 → ∃ t, exec .beaconStretchEnd s = .next t ∧ t.beacon = {} ∧
       (∀ i, s.beaconChannel = some i → t.chan[i].level = 0) ∧
       (∀ i : Fin 24, s.beaconChannel ≠ some i → t.chan[i].level = s.chan[i].level) ∧
       t.stern = s.stern ∧ t.wl = s.wl ∧ t.cfg = s.cfg))

/-- A current conversion: the measured current is raw * SENSE_FULL / 4095, or 0 where the output has been off
for 10 ms; above the trip current for 20 ms it trips the channel, at or below it the 20 ms start anew. They
start anew also at a conversion above it that is taken while the gate is off, which R10 leaves open (the model's
choice, log 36). -/
def Obligations.CurrentIsMeasuredAndWatched : Prop :=
  ∀ (i : Fin 24) (raw : Nat) (s : State), s.chan[i].fault = .ok →
    let cur := if 10 ≤ s.chan[i].offMs then 0 else raw * (s.chCfg i).senseFull / 4095
    (∃ t, exec (.currentConversion i raw) s = .next t ∧ t.chan[i].current = cur ∧
      t.chan[i].level = s.chan[i].level ∧ t.chan[i].owner = s.chan[i].owner ∧ t.chan[i].fade = s.chan[i].fade ∧
      (∀ j : Fin 24, j ≠ i → t.chan[j].fault = s.chan[j].fault) ∧
      t.stern = s.stern ∧ t.wl = s.wl ∧ t.cfg = s.cfg ∧ t.scene = s.scene) ∧
    (cur ≤ (s.chCfg i).trip ∨ s.gateOn i = false → ∃ t, exec (.currentConversion i raw) s = .next t ∧
      t.chan[i].fault = .ok ∧ t.chan[i].overMs = none) ∧
    ((s.chCfg i).trip < cur → s.gateOn i = true → (∀ ms, s.chan[i].overMs = some ms → ms < 20) →
      ∃ t, exec (.currentConversion i raw) s = .next t ∧ t.chan[i].fault = .ok ∧
        t.chan[i].overMs = some (s.chan[i].overMs.getD 0)) ∧
    (∀ ms, (s.chCfg i).trip < cur → s.gateOn i = true → s.chan[i].overMs = some ms → 20 ≤ ms →
      ∃ t, exec (.currentConversion i raw) s = .next t ∧ t.chan[i].fault ≠ .ok ∧ t.gateOn i = false)

/-! ### The supply budget -/

/-- An evaluation outside STARTING: a channel demands its rated current times its duty, rounded up, none in a
fault, and the beacon channel all of its rated current while it blinks and none while it does not; A is S - M
less what is reserved, or 0; each class of 1 to 3 is granted from the remainder by the three rows of its table;
every factor lies within 0..1000; a channel's granted duty follows its class's factor and never exceeds its
commanded duty; nothing else changes but the two conditions and their notices. -/
def Obligations.EvaluationGrantsByClass : Prop :=
  ∀ s : State, s.starting = false →
    let e := (evaluate s).budget.last
    let share (c rem f rest : Nat) : Prop :=
      (c = 0 → f = 1000 ∧ rest = rem) ∧ (0 < c → c ≤ rem → f = 1000 ∧ rest = rem - c) ∧
        (rem < c → f = 1000 * rem / c ∧ rest = 0)
    e.limit = s.cfg.supply.limit s.vessel.active ∧
    (e.avail : Int) = max 0 ((e.limit : Int) - s.cfg.limits.margin - s.budget.res.total) ∧
    (∀ i : Fin 24, demand s.beacon.blinking (s.chCfg i) s.chan[i] =
      if (s.chCfg i).type = .unused ∨ s.chan[i].fault ≠ .ok ∨ s.chan[i].duty = 0 then 0
      else if (s.chCfg i).type = .beacon then (if s.beacon.blinking then (s.chCfg i).rated else 0)
      else ((s.chCfg i).rated * s.chan[i].duty + 999) / 1000) ∧
    e.c0 = classDemand s 0 ∧ e.c1 = classDemand s 1 ∧ e.c2 = classDemand s 2 ∧ e.c3 = classDemand s 3 ∧
    (∃ r1 r2 : Nat, share e.c1 (if s.budget.supply = .normal then e.avail - e.c0 else 0) e.f1 r1 ∧
      share e.c2 r1 e.f2 r2 ∧ share e.c3 r2 e.f3 e.rest) ∧
    e.f1 ≤ 1000 ∧ e.f2 ≤ 1000 ∧ e.f3 ≤ 1000 ∧
    (∀ i : Fin 24, (evaluate s).chan[i] =
      { s.chan[i] with granted := grantedDuty e (s.chCfg i) s.chan[i] } ∧
      (evaluate s).chan[i].granted ≤ s.chan[i].duty) ∧
    (evaluate s).budget.budgetOver = decide (e.avail < e.c0) ∧
    (evaluate s).budget.shedding = (decide (0 < e.c1 ∧ e.f1 < 1000) || decide (0 < e.c2 ∧ e.f2 < 1000) ||
      decide (0 < e.c3 ∧ e.f3 < 1000)) ∧
    (evaluate s).budget = { s.budget with
      last := e, budgetOver := (evaluate s).budget.budgetOver, shedding := (evaluate s).budget.shedding } ∧
    (evaluate s).link = { s.link with
      queue := (evaluate s).link.queue, overflow := (evaluate s).link.overflow } ∧
    s.link.queue <+: (evaluate s).link.queue ∧ (evaluate s).beacon = s.beacon ∧ (evaluate s).dev = s.dev ∧
    (evaluate s).pending = s.pending ∧
    (evaluate s).cfg = s.cfg ∧ (evaluate s).scene = s.scene ∧ (evaluate s).stern = s.stern ∧
    (evaluate s).wl = s.wl ∧ (evaluate s).inp = s.inp ∧ (evaluate s).vessel = s.vessel ∧
    (evaluate s).panel = s.panel ∧ (evaluate s).bind = s.bind ∧ (evaluate s).nv = s.nv

/-- At every evaluation the granted currents of classes 1 to 3 together are at most max(0, S - M - R - C0), and
0 in BROWNOUT and CRITICAL. The classes are those of a configuration in range. -/
def Obligations.GrantsStayWithinTheBudget : Prop :=
  ∀ s : State, s.starting = false → (∀ i : Fin 24, (s.chCfg i).cls ≤ 3) →
    let e := (evaluate s).budget.last
    let granted : Nat := ((List.finRange 24).map fun i =>
      if (s.chCfg i).budgetClass = 0 then 0 else grantedCurrent e s.beacon.blinking (s.chCfg i) s.chan[i]).sum
    (granted : Int) ≤ max 0 ((s.cfg.supply.limit s.vessel.active : Int) - s.cfg.limits.margin -
      s.budget.res.total - classDemand s 0) ∧
    (s.budget.supply ≠ .normal → granted = 0)

/-- RESERVE and RELEASE of an EXT holder. A new request is admitted in NORMAL when C0, what the others hold and
R fit S - M; a smaller amount is taken in any supply state, and an equal one changes nothing; what fails is
refused with SUPPLY_LOW or NO_BUDGET. A release removes the entry, and one without an entry changes nothing. The
host names no other holder. -/
def Obligations.ReservationsAreAdmitted : Prop :=
  ∀ (q : Req) (s : State) (h : ResHolder), s.Takes → h ≠ .stern → h ≠ .windlass →
    let code := codeIn resHolders h
    let made (r : Nat) := Host.Outcome.next (φ := Fault) (ρ := Refusal)
      (formReply 0x0E q.tag Ans.ok (evaluate ((s.taken 0x0E q).setRes h (some r))))
    let others := s.budget.res.total - (s.budget.res.get h).getD 0
    let S := s.cfg.supply.limit s.vessel.active
    (∀ r, q.len = 3 → r ≤ 4000 → (∀ old, s.budget.res.get h = some old → old < r) →
      (s.budget.supply ≠ .normal →
        exec (.reserve q code r) s = .next (withReply 0x0E q (Ans.refused .supplyLow) s)) ∧
      (s.budget.supply = .normal → S < s.budget.last.c0 + others + r + s.cfg.limits.margin →
        exec (.reserve q code r) s = .next (withReply 0x0E q (Ans.refused .noBudget) s)) ∧
      (s.budget.supply = .normal → s.budget.last.c0 + others + r + s.cfg.limits.margin ≤ S →
        exec (.reserve q code r) s = made r)) ∧
    (∀ r old, q.len = 3 → r ≤ 4000 → s.budget.res.get h = some old → r < old →
      exec (.reserve q code r) s = made r) ∧
    (∀ r, q.len = 3 → r ≤ 4000 → s.budget.res.get h = some r →
      exec (.reserve q code r) s = .next (withReply 0x0E q Ans.ok s)) ∧
    (∀ old, q.len = 1 → s.budget.res.get h = some old → exec (.release q code) s = .next
      (formReply 0x0F q.tag Ans.ok (evaluate ((s.taken 0x0F q).setRes h none)))) ∧
    (q.len = 1 → s.budget.res.get h = none → exec (.release q code) s = .next (withReply 0x0F q Ans.ok s)) ∧
    (∀ n r, q.len = 3 → n < 2 ∨ 6 ≤ n ∨ 4000 < r →
      exec (.reserve q n r) s = .next (withReply 0x0E q (Ans.refused .outOfRange) s)) ∧
    (∀ n, q.len = 1 → n < 2 ∨ 6 ≤ n →
      exec (.release q n) s = .next (withReply 0x0F q (Ans.refused .outOfRange) s))

/-- The three moves of the supply state, each once its dwell has run: the notice, then the evaluation. Into
CRITICAL the running motions are first stopped, a run-on of the pump is cut, and the entries for STERN and
WINDLASS are removed; the EXT entries stay. The notice then carries the amounts removed, 0 for a holder without
an entry (the model's choice, log 38). -/
def Obligations.SupplyStateMoves : Prop :=
  ∀ (s : State) (ms : Nat),
    (s.budget.dwell = some (.brownout, ms) → s.budget.supply ≠ .brownout →
      dwellTime s.budget.supply .brownout ≤ ms → ∃ t, exec .supplyToBrownout s = .next t ∧
        Gives .stateBrownout s.sourceIdx [s.voltageValue, 0, codeIn supplyStates s.budget.supply] s t ∧
        t.budget.supply = .brownout ∧ t.budget.res = s.budget.res ∧ t.stern = s.stern ∧ t.wl = s.wl ∧
        t.cfg = s.cfg ∧ t.inp = s.inp ∧ (s.starting = false → t.budget.last = evalFigures t)) ∧
    (s.budget.dwell = some (.normal, ms) → s.budget.supply = .brownout → 2000 ≤ ms →
      ∃ t, exec .stateNormal s = .next t ∧
        Gives .stateNormal s.sourceIdx [s.voltageValue] s t ∧
        t.budget.supply = .normal ∧ t.budget.res = s.budget.res ∧ t.stern = s.stern ∧ t.wl = s.wl ∧
        t.cfg = s.cfg ∧ t.inp = s.inp ∧ (s.starting = false → t.budget.last = evalFigures t)) ∧
    (s.budget.dwell = some (.critical, ms) → s.budget.supply = .brownout → 200 ≤ ms → s.Unbound → s.Between →
      s.starting = false → ∃ t, exec .stateCritical s = .next t ∧
        Gives .stateCritical s.sourceIdx
          [s.voltageValue, (s.budget.res.stern.getD 0 : Nat), (s.budget.res.windlass.getD 0 : Nat)] s t ∧
        (s.stern.pack.pump = .runOn → t.stern.pack = {}) ∧
        t.budget.supply = .critical ∧ t.budget.res.stern = none ∧ t.budget.res.windlass = none ∧
        t.budget.res.ext1 = s.budget.res.ext1 ∧ t.budget.res.ext2 = s.budget.res.ext2 ∧
        t.budget.res.ext3 = s.budget.res.ext3 ∧ t.budget.res.ext4 = s.budget.res.ext4 ∧
        (∀ a, (s.axis a).state.watched = true → (t.axis a).state = .fault ∧
          (t.axis a).fault.map (·.cause) = some .supply) ∧
        (s.wl.state.running = true → t.wl.state = .braking ∧ t.wl.brakingEnd = some .fault ∧ t.wl.up = false ∧
          t.wl.down = false ∧ t.wl.faultRec.map (·.cause) = some .supply) ∧
        t.budget.last = evalFigures t)

/-! ### Scenes and players -/

/-- A SCENE_WRITE first part within its ranges and past its checks opens an assembly with a lapse time of 5000
ms, or installs the record where it carries all its rows; a record that differs from the slot's marks SCENES
changed. A refused one answers the rows of the open assembly, whatever its slot (the model's choice, log 40),
and the bytes of a name are printable where log 39 takes them to be (the model's choice). A part byte that is
neither 0 nor 1 is refused as out of range (the model's choice, log 63). -/
def Obligations.SceneFirstPartOpensOrInstalls : Prop :=
  ∀ (q : Req) (p : ScenePart) (s : State), s.Takes → firstPartLengthOk q.len p = true →
    (partInRange p = false → exec (.sceneWriteFirstPart q p) s = .next
      (withReply 0x07 q ⟨.outOfRange, s.rowsReceived, le16 s.usedCells⟩ s)) ∧
    (partInRange p = true → p.chans.any s.isBeacon = true → exec (.sceneWriteFirstPart q p) s = .next
      (withReply 0x07 q ⟨.conflict, s.rowsReceived, le16 s.usedCells⟩ s)) ∧
    (partInRange p = true → p.chans.any s.isBeacon = false → s.slotRuns p.slot = true →
      exec (.sceneWriteFirstPart q p) s = .next
        (withReply 0x07 q ⟨.inUse, s.rowsReceived, le16 s.usedCells⟩ s)) ∧
    (partInRange p = true → p.chans.any s.isBeacon = false → s.slotRuns p.slot = false →
      768 + cellsOf (s.sceneAt p.slot) < s.usedCells + p.n * p.m → exec (.sceneWriteFirstPart q p) s = .next
        (withReply 0x07 q ⟨.noSpace, s.rowsReceived, le16 s.usedCells⟩ s)) ∧
    (partInRange p = true → p.chans.any s.isBeacon = false → s.slotRuns p.slot = false →
      s.usedCells + p.n * p.m ≤ 768 + cellsOf (s.sceneAt p.slot) →
      (s.committing = true → exec (.sceneWriteFirstPart q p) s = .next
        (withReply 0x07 q ⟨.busy, s.rowsReceived, le16 s.usedCells⟩ s)) ∧
      (s.committing = false → partRows p < p.n → exec (.sceneWriteFirstPart q p) s = .next
        (withReply 0x07 q ⟨.ok, partRows p, le16 s.usedCells⟩
          { s with scene := { s.scene with assembly := some ⟨p.slot, partRec p, 5000⟩ } })) ∧
      (s.committing = false → partRows p = p.n → ∃ t, exec (.sceneWriteFirstPart q p) s = .next t ∧
        t.sceneAt p.slot = some (partRec p) ∧ t.scene.assembly = none ∧
        (∀ n, n ≠ p.slot → t.sceneAt n = s.sceneAt n) ∧
        t.dev = { s.dev with changed := if s.sceneAt p.slot = some (partRec p) then s.dev.changed
          else s.dev.changed ||| 4#9 } ∧
        t.link.replies = s.link.replies ++ [⟨0x07, q.tag, .ok, partRows p, le16 t.usedCells⟩] ∧
        t.chan = s.chan ∧ t.stern = s.stern ∧ t.wl = s.wl ∧ t.scene.players = s.scene.players))

/-- A SCENE_WRITE continuation part adds its whole rows at the count received and starts the lapse time again; with
the last row the checks are made again and the record is installed, or the assembly is discarded. One for no open
assembly, not of whole rows, during a commit, or out of place changes nothing. The NOT_FOUND of a part for another
slot answers the rows of the open assembly, and a refusal at the install all the rows (the model's choices, log
40). -/
def Obligations.SceneContinuationAddsRows : Prop :=
  ∀ (q : Req) (slot first : Nat) (ls : List Nat) (s : State), s.Takes → continuationLengthOk q.len ls = true →
    ((∀ a, s.scene.assembly = some a → a.slot ≠ slot) → exec (.sceneWriteContinuation q slot first ls) s = .next
      (withReply 0x07 q ⟨.notFound, s.rowsReceived, le16 s.usedCells⟩ s)) ∧
    (∀ a, s.scene.assembly = some a → a.slot = slot →
      let m := a.rcd.chans.length
      let n := (q.len - 3) / (2 * m)
      let rcd := { a.rcd with rows := a.rcd.rows ++ rowsOf m n ls }
      ((q.len - 3) % (2 * m) ≠ 0 ∨ q.len < 3 + 2 * m → exec (.sceneWriteContinuation q slot first ls) s = .next
        (withReply 0x07 q ⟨.badLength, a.rcd.rows.length, le16 s.usedCells⟩ s)) ∧
      ((q.len - 3) % (2 * m) = 0 → 3 + 2 * m ≤ q.len →
        (s.committing = true → exec (.sceneWriteContinuation q slot first ls) s = .next
          (withReply 0x07 q ⟨.busy, a.rcd.rows.length, le16 s.usedCells⟩ s)) ∧
        (s.committing = false →
          first ≠ a.rcd.rows.length ∨ a.rcd.steps < a.rcd.rows.length + n ∨ (∃ l ∈ ls, 1000 < l) →
          exec (.sceneWriteContinuation q slot first ls) s = .next
            (withReply 0x07 q ⟨.outOfRange, a.rcd.rows.length, le16 s.usedCells⟩ s)) ∧
        (s.committing = false → first = a.rcd.rows.length → (∀ l ∈ ls, l ≤ 1000) →
          (first + n < a.rcd.steps → exec (.sceneWriteContinuation q slot first ls) s = .next
            (withReply 0x07 q ⟨.ok, first + n, le16 s.usedCells⟩
              { s with scene := { s.scene with assembly := some ⟨slot, rcd, 5000⟩ } })) ∧
          (first + n = a.rcd.steps → slot < 64 → installCheck slot rcd s = none →
            ∃ t, exec (.sceneWriteContinuation q slot first ls) s = .next t ∧ t.sceneAt slot = some rcd ∧
              t.scene.assembly = none ∧ (∀ k, k ≠ slot → t.sceneAt k = s.sceneAt k) ∧
              t.link.replies = s.link.replies ++ [⟨0x07, q.tag, .ok, first + n, le16 t.usedCells⟩]) ∧
          (∀ c, first + n = a.rcd.steps → installCheck slot rcd s = some c →
            exec (.sceneWriteContinuation q slot first ls) s = .next
              (withReply 0x07 q ⟨c, first + n, le16 s.usedCells⟩
                { s with scene := { s.scene with assembly := none } })))))

/-- SCENE_DELETE: a slot above 63 is OUT_OF_RANGE, one that a player runs IN_USE, any other during a commit BUSY
(that IN_USE is judged first is the model's choice, log 103); otherwise the slot becomes empty and its cells return
to the pool, and no other slot, player or assembly changes; a slot that held a scene marks SCENES changed, an empty
one changes no content and no mark. An assembly whose lapse time has run out is discarded, with WRITE_LAPSED for
its slot and its rows; before that writeLapsed changes nothing (the model's choice, log 3). -/
def Obligations.ScenesAreDeletedAndLapse : Prop :=
  (∀ (q : Req) (slot : Nat) (s : State), q.len = 1 → s.Takes →
     (64 ≤ slot → exec (.sceneDelete q slot) s = .next (withReply 0x09 q (Ans.refused .outOfRange) s)) ∧
     (slot < 64 → s.slotRuns slot = true →
       exec (.sceneDelete q slot) s = .next (withReply 0x09 q (Ans.refused .inUse) s)) ∧
     (slot < 64 → s.slotRuns slot = false → s.committing = true →
       exec (.sceneDelete q slot) s = .next (withReply 0x09 q (Ans.refused .busy) s)) ∧
     (slot < 64 → s.slotRuns slot = false → s.committing = false → ∃ t, exec (.sceneDelete q slot) s = .next t ∧
       t.sceneAt slot = none ∧ (∀ n, n ≠ slot → t.sceneAt n = s.sceneAt n) ∧
       t.usedCells + cellsOf (s.sceneAt slot) = s.usedCells ∧ t.scene = s.scene ∧ t.chan = s.chan ∧
       t.link.replies = s.link.replies ++ [⟨0x09, q.tag, .ok, 0, []⟩] ∧
       t.dev = { s.dev with changed := if (s.sceneAt slot).isSome then s.dev.changed ||| 4#9
         else s.dev.changed })) ∧
  (∀ (s : State) (a : Assembly), s.scene.assembly = some a →
     (a.lapse = 0 → exec .writeLapsed s = .next (notice .writeLapsed a.slot [a.rcd.rows.length]
       { s with scene := { s.scene with assembly := none } })) ∧
     (a.lapse ≠ 0 → exec .writeLapsed s = .next s))

/-- PLAYER_START on an IDLE player of a scene whose one channel is DIMMED, of no player and not the beacon's,
with a fade time: the player is FADING with the channel in both sets, and the channel fades to its level in row
0; a busy player queues, ignores or restarts by the busy mode: a restarted one first gives its channels up where
they stand, ABORTED with PLAYER_DONE, and then starts in the same way. What is out of range, empty or ignored is
refused. -/
def Obligations.PlayersStart : Prop :=
  ∀ (q : Req) (s : State) (p : Fin 4) (slot : Nat) (m : BusyMode), q.len = 3 → s.Takes → s.Calm →
    let start := Instr.playerStart q p slot (codeIn busyModes m)
    (∀ (r : SceneRec) (i : Fin 24) (l : Nat), s.sceneAt slot = some r → (s.player p).state = .idle →
      (s.player p).active = [] → (s.player p).waiting = [] → r.chans = [i.val] → r.rows.getD 0 [] = [l] → 0 < r.fade →
      (s.chCfg i).type = .dimmed → s.chan[i].owner = .none ∨ s.chan[i].owner = .hostDirect ∨ s.chan[i].owner = .binding →
      ∃ t, exec start s = .next t ∧
        t.player p = { s.player p with
          state := .fading, scene := some slot, source := .host, step := 0, repeats := 0, endFade := false,
          active := [i.val], waiting := [i.val] } ∧
        t.chan[i] = { s.chan[i] with
          owner := .player p,
          fade := some { start := s.chan[i].level, target := min l 1000, elapsed := 0, time := min r.fade 60000,
                         since := 0 } } ∧
        (∀ j : Fin 24, j ≠ i → t.chan[j] = s.chan[j]) ∧ t.cfg = s.cfg ∧ t.stern = s.stern ∧ t.wl = s.wl ∧
        t.link.queue = (notice .playerStarted p [slot, value2 TrigSource.host.pair, 1] s).link.queue ∧
        t.link.replies = s.link.replies ++ [⟨0x0A, q.tag, .ok, 0, []⟩]) ∧
    (∀ (r : SceneRec) (i : Fin 24) (l : Nat), s.sceneAt slot = some r → (s.player p).state ≠ .idle → m = .restart →
      r.chans = [i.val] → r.rows.getD 0 [] = [l] → 0 < r.fade → (s.chCfg i).type = .dimmed →
      s.chan[i].owner = .none ∨ s.chan[i].owner = .hostDirect ∨ s.chan[i].owner = .binding ∨
        (s.chan[i].owner = .player p ∧ i.val ∈ (s.player p).active) →
      ∃ t, exec start s = .next t ∧
        t.player p =
          { state := .fading, scene := some slot, source := .host, step := 0, repeats := 0, endFade := false,
            active := [i.val], waiting := [i.val], dwell := none, pendingTrig := none, outcome := .aborted } ∧
        t.chan[i] = { s.chan[i] with
          owner := .player p,
          fade := some { start := s.chan[i].level, target := min l 1000, elapsed := 0, time := min r.fade 60000,
                         since := 0 } } ∧
        (∀ j : Fin 24, j ≠ i → t.chan[j] = if j.val ∈ (s.player p).active
          then { s.chan[j] with owner := .none, fade := none } else s.chan[j]) ∧
        (∀ p' : Fin 4, p' ≠ p → t.player p' = s.player p') ∧ t.cfg = s.cfg ∧ t.stern = s.stern ∧ t.wl = s.wl ∧
        t.link.queue = (notice .playerStarted p [slot, value2 TrigSource.host.pair, 1]
          (notice .playerDone p [(s.player p).scene.getD 255, codeIn playerOutcomes .aborted,
            (s.player p).repeats, value2 (s.player p).source.pair] s)).link.queue ∧
        t.link.replies = s.link.replies ++ [⟨0x0A, q.tag, .ok, 0, []⟩]) ∧
    ((s.player p).state ≠ .idle → (s.sceneAt slot).isSome → m = .queue → ∃ t, exec start s = .next t ∧
      t.player p = { s.player p with pendingTrig := some (slot, .host) } ∧ t.chan = s.chan ∧
      t.link.replies = s.link.replies ++ [⟨0x0A, q.tag, .ok, 0, []⟩]) ∧
    ((s.player p).state ≠ .idle → (s.sceneAt slot).isSome → m = .ignore →
      exec start s = .next (withReply 0x0A q (Ans.refused .busy) s)) ∧
    (slot < 64 → s.sceneAt slot = none → exec start s = .next (withReply 0x0A q (Ans.refused .notFound) s)) ∧
    (64 ≤ slot → exec start s = .next (withReply 0x0A q (Ans.refused .outOfRange) s)) ∧
    (∀ n b, 4 ≤ n → exec (.playerStart q n slot b) s = .next (withReply 0x0A q (Ans.refused .outOfRange) s)) ∧
    (∀ b, 3 ≤ b → exec (.playerStart q p slot b) s = .next (withReply 0x0A q (Ans.refused .outOfRange) s))

/-- PLAYER_STOP with FINISH: a FADING player is STOPPING and sets nothing further, a STOPPING one stays so, an
IDLE one is left as it is; a player in DWELL becomes IDLE, STOPPED, and its channels are given up. The pending
slot is emptied. PLAYER_STOP with ABORT: a run ends where it stands with outcome ABORTED; each channel of the
active set keeps its level, loses its fade and has owner NONE, and PLAYER_DONE is given. An IDLE player is left
as it is. -/
def Obligations.PlayersAreStopped : Prop :=
  (∀ (q : Req) (s : State) (p : Fin 4), q.len = 2 → s.Takes → s.Calm →
     ((s.player p).state = .idle → exec (.playerStopFinish q p 0) s = .next (withReply 0x0B q Ans.ok s)) ∧
     ((s.player p).state = .fading ∨ (s.player p).state = .stopping →
       exec (.playerStopFinish q p 0) s = .next (withReply 0x0B q Ans.ok
         (s.setPlayer p { s.player p with state := .stopping, pendingTrig := none }))) ∧
     ((s.player p).state = .dwell → ∃ t, exec (.playerStopFinish q p 0) s = .next t ∧
       t.player p = { s.player p with state := .idle, outcome := .stopped, scene := none, endFade := false, active := [],
                                      waiting := [], dwell := none, pendingTrig := none } ∧
       (∀ i : Fin 24, t.chan[i] = if i.val ∈ (s.player p).active
         then { s.chan[i] with owner := .none, fade := none } else s.chan[i]) ∧
       t.link.replies = s.link.replies ++ [⟨0x0B, q.tag, .ok, 0, []⟩]) ∧
     (∀ n k, 2 ≤ k ∨ 4 ≤ n → k ≠ 1 →
       exec (.playerStopFinish q n k) s = .next (withReply 0x0B q (Ans.refused .outOfRange) s))) ∧
  (∀ (q : Req) (s : State) (p : Fin 4), q.len = 2 → s.Takes → s.Calm →
     ((s.player p).state = .idle → exec (.playerStopAbort q p 1) s = .next (withReply 0x0B q Ans.ok s)) ∧
     ((s.player p).state ≠ .idle → ∃ t, exec (.playerStopAbort q p 1) s = .next t ∧
       t.player p = { s.player p with state := .idle, outcome := .aborted, scene := none, endFade := false, active := [],
                                      waiting := [], dwell := none, pendingTrig := none } ∧
       (∀ i : Fin 24, t.chan[i] = if i.val ∈ (s.player p).active
         then { s.chan[i] with owner := .none, fade := none } else s.chan[i]) ∧
       t.link.queue = (notice .playerDone p [(s.player p).scene.getD 255, codeIn playerOutcomes .aborted,
         (s.player p).repeats, value2 (s.player p).source.pair] s).link.queue ∧
       (∀ p' : Fin 4, p' ≠ p → t.player p' = s.player p') ∧ t.stern = s.stern ∧ t.wl = s.wl ∧ t.cfg = s.cfg ∧
       t.link.replies = s.link.replies ++ [⟨0x0B, q.tag, .ok, 0, []⟩]) ∧
     (∀ n, 4 ≤ n → exec (.playerStopAbort q n 1) s = .next (withReply 0x0B q (Ans.refused .outOfRange) s)))

/-- The dwell of a SEQUENCE player is over: before the last row it fades its channels to the next row, after the
last row to row 0 with one more repeat done while repeats are left, and with HOLD_LAST it ends COMPLETED after
its last pass; with TO_FIRST it then fades its channels to row 0 with the end fade flag set, and with ALL_OFF to
level 0, its step index kept. Stated for scenes with a fade time and players that hold DIMMED channels. A player
whose last waiting fade ends: a STATIC scene ends COMPLETED, a SEQUENCE enters its dwell with its step as it
was, and a STOPPING player ends STOPPED; ended players give their channels up. -/
def Obligations.RunsGoOnRowByRow : Prop :=
  (∀ (s : State) (p : Fin 4) (slot : Nat) (r : SceneRec), s.Calm → (s.player p).state = .dwell →
     (s.player p).dwell = some 0 → (s.player p).scene = some slot → s.sceneAt slot = some r → 0 < r.fade →
     (s.player p).active ≠ [] → (s.player p).active.Nodup →
     (∀ n ∈ (s.player p).active, ∃ i : Fin 24, i.val = n ∧ (s.chCfg i).type = .dimmed) →
     (∀ next reps, ((s.player p).step + 1 < r.steps ∧ next = (s.player p).step + 1 ∧ reps = (s.player p).repeats) ∨
         ((s.player p).step + 1 = r.steps ∧ next = 0 ∧ (r.repeats = 0 ∨ (s.player p).repeats + 1 < r.repeats) ∧
           reps = min 65535 ((s.player p).repeats + 1)) →
       ∃ t, exec (.dwellEnd p) s = .next t ∧
         t.player p = { s.player p with state := .fading, step := next, repeats := reps, dwell := none,
                                        waiting := (s.player p).active } ∧
         (∀ i : Fin 24, i.val ∈ (s.player p).active → t.chan[i] = { s.chan[i] with
           fade := some { start := s.chan[i].level, target := min (r.levelOf next i) 1000, elapsed := 0,
                          time := min r.fade 60000, since := 0 } }) ∧
         (∀ i : Fin 24, i.val ∉ (s.player p).active → t.chan[i] = s.chan[i]) ∧ t.link = s.link ∧ t.cfg = s.cfg) ∧
     ((s.player p).step + 1 = r.steps → r.repeats ≠ 0 → (s.player p).repeats + 1 = r.repeats → r.repeats ≤ 65535 →
       r.endB = .toFirst ∨ r.endB = .allOff → ∃ t, exec (.dwellEnd p) s = .next t ∧
         t.player p = { s.player p with
           state := .fading, step := if r.endB = .toFirst then 0 else (s.player p).step, repeats := r.repeats,
           endFade := true, dwell := none, waiting := (s.player p).active } ∧
         (∀ i : Fin 24, i.val ∈ (s.player p).active → t.chan[i] = { s.chan[i] with
           fade := some { start := s.chan[i].level, elapsed := 0, time := min r.fade 60000, since := 0
                          target := if r.endB = .toFirst then min (r.levelOf 0 i) 1000 else 0 } }) ∧
         (∀ i : Fin 24, i.val ∉ (s.player p).active → t.chan[i] = s.chan[i]) ∧ t.link = s.link ∧ t.cfg = s.cfg) ∧
     ((s.player p).step + 1 = r.steps → r.repeats ≠ 0 → (s.player p).repeats + 1 = r.repeats → r.repeats ≤ 65535 →
       r.endB = .holdLast → (s.player p).pendingTrig = none → ∃ t, exec (.dwellEnd p) s = .next t ∧
         (t.player p).state = .idle ∧ (t.player p).outcome = .completed ∧ (t.player p).repeats = r.repeats ∧
         (t.player p).active = [] ∧
         (∀ i : Fin 24, t.chan[i].level = s.chan[i].level ∧
           (i.val ∈ (s.player p).active → t.chan[i].owner = .none)))) ∧
  (∀ (s : State) (p : Fin 4) (i : Fin 24) (f : Fade) (slot : Nat) (r : SceneRec), s.Calm →
     s.chan[i].fade = some f → 20 ≤ f.since → 0 < f.time → f.time ≤ f.elapsed + 20 → s.chan[i].owner = .player p →
     (s.player p).waiting = [i.val] → i.val ∈ (s.player p).active → (s.player p).scene = some slot →
     s.sceneAt slot = some r → (s.player p).pendingTrig = none →
     ((s.player p).state = .fading → (s.player p).endFade = false → r.kind = .static →
       ∃ t, exec (.fadeStep i) s = .next t ∧ (t.player p).state = .idle ∧ (t.player p).outcome = .completed ∧
         t.chan[i].level = f.target ∧ t.chan[i].owner = .none) ∧
     ((s.player p).state = .fading → (s.player p).endFade = true →
       ∃ t, exec (.fadeStep i) s = .next t ∧ (t.player p).state = .idle ∧ (t.player p).outcome = .completed ∧
         t.chan[i].level = f.target ∧ t.chan[i].owner = .none) ∧
     ((s.player p).state = .fading → (s.player p).endFade = false → r.kind = .sequence →
       ∃ t, exec (.fadeStep i) s = .next t ∧
         t.player p = { s.player p with state := .dwell, dwell := some r.dwell, waiting := [] } ∧
         t.chan[i].level = f.target ∧ t.chan[i].owner = .player p) ∧
     ((s.player p).state = .stopping →
       ∃ t, exec (.fadeStep i) s = .next t ∧ (t.player p).state = .idle ∧ (t.player p).outcome = .stopped ∧
         t.chan[i].level = f.target ∧ t.chan[i].owner = .none))

/-! ### Inputs -/

/-- A LEVEL input whose role no motion block reads (GENERAL, SWIM_ZONE, COMMISSION_KEY), with no binding and no
permit term enabled: its filtered state changes once the samples have differed from it for T_STABLE, with ACTIVE
or INACTIVE; a STUCK input only clears its mark; a shorter run changes no state. An UNUSED input is not sampled.
-/
def Obligations.LevelInputsAreFiltered : Prop :=
  ∀ (n : Fin 16) (pin : Bool) (run : Nat) (s : State),
    let k := s.diCfg n
    let on := pin == k.activeHigh
    (k.role = .unused → exec (.levelFilterChange n pin run) s = .next s) ∧
    (k.role ≠ .unused → k.pulse = false → on = (s.diRt n).filtered ∨ run < k.tStable →
      exec (.levelFilterChange n pin run) s = .next (s.setDi n { s.diRt n with pin := pin, run := run })) ∧
    (k.role = .general ∨ k.role = .swimZone ∨ k.role = .commissionKey → k.pulse = false → s.Calm → s.Unwatched →
      on ≠ (s.diRt n).filtered → k.tStable ≤ run →
      let u := s.setDi n { pin := pin, run := run, filtered := on, settled := true, stuck := false, since := 0 }
      ((s.diRt n).stuck = false → exec (.levelFilterChange n pin run) s = .next
        (notice (if on then .inActive else .inInactive) n [k.roleCode] u)) ∧
      ((s.diRt n).stuck = true → exec (.levelFilterChange n pin run) s = .next
        (notice .stuckCleared n [k.roleCode] u)))

/-- The settled mark is set by the first run of inactive samples of T_STABLE, or of 5 ms in PULSE mode; an active
LEVEL input becomes STUCK after its stuck limit, with STUCK in place of INACTIVE. In PULSE mode an active sample
after 5 ms of inactive ones begins a pulse, whose time counts from the first sample of its run, n - 1 ms before the
last of n; an inactive run shorter than 5 ms inside it is bridged; one of 5 ms ends it. A pulse within its limits,
from its first active sample to its last, gives PULSE with its width, a narrower one nothing; one past PULSE_MAX
makes the input STUCK at once, and the end of that pulse gives STUCK_CLEARED. An active run before the input has
settled begins no pulse; past PULSE_MAX, counted from the reset, it is STUCK, also one that begins after the reset
(the model's choice, log 93). The input's validated state stays inactive. A command that names what is not due
changes nothing (log 3), and the run lengths are the sender's (log 24): both the model's choice. -/
def Obligations.DigitalInputsSettleStickAndPulse : Prop :=
  (∀ (n : Fin 16) (run : Nat) (s : State),
     let k := s.diCfg n
     let d := s.diRt n
     (k.role ≠ .unused → d.settled = false → d.filtered = false → (if k.pulse then 5 else k.tStable) ≤ run →
       exec (.inputSettled n run) s = .next
         (s.setDi n { d with pin := !k.activeHigh, run := run, settled := true })) ∧
     (d.settled = true → exec (.inputSettled n run) s = .next s) ∧
     (k.role = .general ∨ k.role = .swimZone ∨ k.role = .commissionKey → k.pulse = false → s.Calm → s.Unwatched →
       k.stuckLimit ≠ 0 → d.filtered = true → d.stuck = false → k.stuckLimit * 1000 ≤ d.since →
       exec (.stuck n) s = .next (notice .inStuck n [k.roleCode, d.since] (s.setDi n { d with stuck := true }))) ∧
     (k.stuckLimit = 0 ∨ d.filtered = false ∨ d.stuck = true → exec (.stuck n) s = .next s)) ∧
  (∀ (n : Fin 16) (run : Nat) (s : State),
     let k := s.diCfg n
     let d := s.diRt n
     let width := d.since - run
     let off : DiRt := { d with pin := !k.activeHigh, run := run }
     let on : DiRt := { d with pin := k.activeHigh, run := run }
     let ended := s.setDi n { off with filtered := false, stuck := false, settled := true, since := 0 }
     k.role ≠ .unused → k.pulse = true →
     (d.settled = true → d.filtered = false → exec (.levelFilterChange n k.activeHigh run) s = .next
       (s.setDi n { on with filtered := true, since := run - 1 })) ∧
     (d.settled = false ∨ d.filtered = true → exec (.levelFilterChange n k.activeHigh run) s = .next (s.setDi n on)) ∧
     (exec (.levelFilterChange n (!k.activeHigh) run) s = .next (s.setDi n off)) ∧
     (d.filtered = true → run < 5 → exec (.inputPulse n run) s = .next (s.setDi n off)) ∧
     (d.filtered = false → exec (.inputPulse n run) s = .next s) ∧
     (d.filtered = true → 5 ≤ run →
       (s.Calm → d.stuck = false → k.pulseMin ≤ width → width ≤ k.pulseMax →
         exec (.inputPulse n run) s = .next (notice .inPulse n [width] ended)) ∧
       (d.stuck = false → width ≤ k.pulseMax → width < k.pulseMin → exec (.inputPulse n run) s = .next ended) ∧
       (d.stuck = false → k.pulseMax < width → exec (.inputPulse n run) s = .next
         (notice .stuckCleared n [k.roleCode] (notice .inStuck n [k.roleCode, width] ended))) ∧
       (d.stuck = true → exec (.inputPulse n run) s = .next (notice .stuckCleared n [k.roleCode] ended)))) ∧
  (∀ (n : Fin 16) (s : State),
     let k := s.diCfg n
     let d := s.diRt n
     let width := if d.pin = k.activeHigh then d.since else d.since - d.run
     k.role ≠ .unused → k.pulse = true →
     (d.stuck = false → d.filtered = true ∨ (d.settled = false ∧ d.pin = k.activeHigh) → k.pulseMax < width →
       exec (.pulseStuck n width) s = .next (notice .inStuck n [k.roleCode, width] (s.setDi n
         { d with stuck := true, filtered := true }))) ∧
     (∀ w, d.stuck = true ∨ width ≤ k.pulseMax ∨ w ≠ width ∨
         (d.filtered = false ∧ (d.settled = true ∨ d.pin ≠ k.activeHigh)) →
       exec (.pulseStuck n w) s = .next s) ∧
     s.validated n = false)

/-- A conversion of an analog input in use that is not in SENSOR_FAULT: inside the margin its value is that of
R68's table; outside it the value is absent and the input is in SENSOR_FAULT. No other input and no figure
changes. An input in SENSOR_FAULT: a conversion outside the margin cancels the recovery, the first inside starts
it, and the first at which it has lasted 500 ms clears the fault with its value; sensorOk before that changes
nothing (the model's choice, log 3). -/
def Obligations.AnalogInputsAreConverted : Prop :=
  (∀ (n : Fin 4) (raw : Nat) (s : State), (s.aiCfg n).role ≠ .unused → (s.aiRt n).fault = false →
     let k := s.aiCfg n
     ∃ t, exec (.analogConversion n raw) s = .next t ∧ t.cfg = s.cfg ∧ t.inp.di = s.inp.di ∧
       t.inp.chain = s.inp.chain ∧ (∀ m : Fin 4, m ≠ n → t.inp.ai[m] = s.inp.ai[m]) ∧
       (k.rawLo ≤ raw → raw ≤ k.rawHi → t.inp.ai[n] =
         { value := some ((k.eLo : Int) + Int.tdiv (((raw : Int) - k.rawLo) * ((k.eHi : Int) - k.eLo))
             ((k.rawHi : Int) - k.rawLo)).toNat, converted := true, lastRaw := raw }) ∧
       (raw < k.rawLo → k.rawLo ≤ raw + k.margin → raw ≤ k.rawHi → t.inp.ai[n] =
         { value := some k.eLo, converted := true, lastRaw := raw }) ∧
       (k.rawHi < raw → raw ≤ k.rawHi + k.margin → k.rawLo ≤ raw → t.inp.ai[n] =
         { value := some k.eHi, converted := true, lastRaw := raw }) ∧
       (raw + k.margin < k.rawLo ∨ k.rawHi + k.margin < raw → t.inp.ai[n] =
         { value := none, converted := true, fault := true, lastRaw := raw })) ∧
  (∀ (n : Fin 4) (raw : Nat) (s : State), (s.aiCfg n).role ≠ .unused → (s.aiRt n).fault = true →
     let k := s.aiCfg n
     let d := s.aiRt n
     (k.inside raw = false → exec (.analogConversion n raw) s = .next
       (s.setAi n { d with recovery := none, lastRaw := raw })) ∧
     (k.inside raw = true → d.recovery = none → exec (.analogConversion n raw) s = .next
       (s.setAi n { d with recovery := some 0, lastRaw := raw })) ∧
     (∀ ms, k.inside raw = true → d.recovery = some ms → ms < 500 → exec (.analogConversion n raw) s = .next
       (s.setAi n { d with lastRaw := raw })) ∧
     (∀ ms c, k.inside raw = true → d.recovery = some ms → 500 ≤ ms →
       c = .analogConversion n raw ∨ c = .sensorOk n raw → ∃ t, exec c s = .next t ∧
         t.inp.ai[n] = { value := some (k.valueOf raw), converted := true, lastRaw := raw } ∧
         t.inp.di = s.inp.di ∧ t.cfg = s.cfg) ∧
     (∀ ms, d.recovery = some ms → ms < 500 → exec (.sensorOk n raw) s = .next s))

/-- What the readers make of what an input shows, outside STARTING and with no binding enabled. Conversions: a bus
voltage below UV_SHED starts the dwell toward BROWNOUT, one outside the margin puts the supply state in BROWNOUT
and holds it; an invalid position faults its axis; a valid motor current is kept as the last one and judged against
STALL_CURRENT, an invalid one faults a powered run, whose record has the last valid value. The watch on the
geometry: the hatch in motion faults when the platform is no longer clear by its position, or, closing, when the
tender is in its path; the platform on its way below HATCH_CLEARANCE, as it stands in the working copy (the model's
choice, log 73), faults when the hatch leaves STOWED. The permit re-check: an input that makes a CONTINUOUS term
false stops its subject with PERMIT and the term. The foot switches: a hold against a run stops it and sets the
conflict latch, one along it is ignored, its switch given by the model's code (log 76), and its release stops its
own run and clears the latch when the list is empty. The home switch: the count becomes 0 VERIFIED with HOME_SET
and the count replaced, and a run in HOISTING or JOGGING stops with HOME. The shore input: while SHORE_INPUT_WINS
is set and the record is FRESH the active source becomes SHORE, and the reported one as the input goes inactive,
with SOURCE_CHANGED and an evaluation; a STALE record stays at BATTERY. A CONTINUOUS SOURCE_IS term that the shore
input makes false stops its subject with PERMIT and the term, the fault given after the derivation and its
SOURCE_CHANGED, and also while the record is STALE. The watch of a STOWED axis: its stow end becoming inactive, or
STUCK, or its latch input active, faults it with LATCH. -/
def Obligations.ReadersTakeWhatInputsShow : Prop :=
  (∀ (n : Fin 4) (raw : Nat) (s : State), s.Calm → (s.aiRt n).fault = false → s.stern.seq.running = false →
    let k := s.aiCfg n
    (s.analogInput .busVoltage = some n → k.role = .busVoltage → k.inside raw = true → s.budget.supply = .normal →
      ∃ t, exec (.analogConversion n raw) s = .next t ∧ t.budget.supply = .normal ∧
        (k.valueOf raw < s.cfg.limits.uvShed → s.budget.dwell = none → t.budget.dwell = some (.brownout, 0)) ∧
        (s.cfg.limits.uvShed ≤ k.valueOf raw → t.budget.dwell = none)) ∧
    (s.analogInput .busVoltage = some n → k.role = .busVoltage → k.inside raw = false →
      ∃ t, exec (.analogConversion n raw) s = .next t ∧ t.budget.supply = .brownout ∧ t.budget.held = true ∧
        t.budget.dwell = none ∧ t.stern = s.stern ∧ t.wl = s.wl) ∧
    (s.analogInput .platPosition = some n → k.role = .platPosition → k.inside raw = false →
      s.stern.platform.state ≠ .fault → s.stern.hatch.state.watched = false →
      ∃ t, exec (.analogConversion n raw) s = .next t ∧ t.stern.platform.state = .fault ∧
        t.stern.platform.fault =
          some ⟨.positionSensor, s.stern.platform.state, none, s.stern.platform.runMs, 0⟩ ∧
        t.stern.platform.holder = .none ∧ t.stern.hatch = s.stern.hatch ∧
        (s.stern.platform.state.driving = true → s.stern.pack.axis = some .platform →
          t.stern.pack = {} ∧ t.budget.res.stern = none)) ∧
    (s.analogInput .windlassCurrent = some n → k.role = .windlassCurrent → k.inside raw = true →
      ∃ t, exec (.analogConversion n raw) s = .next t ∧
        t.wl = { s.wl with
          lastCurrent := some (k.valueOf raw)
          stall := if (s.wl.up = true ∨ s.wl.down = true) ∧ s.cfg.limits.stallCurrent < k.valueOf raw
            then some ((s.wl.stall.map (·.1)).getD 0, s.cfg.limits.stallTime) else none } ∧
        t.stern = s.stern ∧ t.budget = s.budget) ∧
    (s.analogInput .windlassCurrent = some n → k.role = .windlassCurrent → k.inside raw = false →
      s.wl.state.powered = true →
      ∃ t, exec (.analogConversion n raw) s = .next t ∧ t.wl.state = .braking ∧ t.wl.brakingEnd = some .fault ∧
        t.wl.faultRec = some ⟨.currentSensor, s.wl.state, s.wl.count, s.wl.lastCurrent, 0⟩ ∧ t.wl.up = false ∧
        t.wl.down = false ∧ t.budget.res.windlass = none) ∧
    (s.analogInput .platPosition = some n → k.role = .platPosition → k.inside raw = true →
      k.valueOf raw < s.cfg.limits.hatchClearance → s.stern.hatch.state.watched = true →
      s.stern.platform.state.driving = false →
      ∃ t, exec (.analogConversion n raw) s = .next t ∧ t.stern.platform = s.stern.platform ∧
        t.stern.hatch.state = .fault ∧ t.stern.hatch.holder = .none ∧ t.stern.hatch.latchHold = false ∧
        t.stern.hatch.fault = some ⟨.interlock, s.stern.hatch.state, s.position .hatch, s.stern.hatch.runMs,
          Interlock.platformNotClear.code⟩ ∧
        t.budget.res.stern = none ∧ (s.stern.pack.axis = some .hatch → t.stern.pack = {})) ∧
    (s.analogInput .hatchPosition = some n → k.role = .hatchPosition → k.inside raw = false →
      s.stern.hatch.state = .stowed → s.stern.platform.state.watched = true →
      s.stern.platform.target < s.cfg.limits.hatchClearance → s.stern.pack.pump ≠ .runOn →
      s.stern.pack.axis = some .platform ∨ s.stern.pack = {} →
      ∃ t, exec (.analogConversion n raw) s = .next t ∧ t.stern.hatch.state = .fault ∧
        t.stern.hatch.fault.map (·.cause) = some .positionSensor ∧ t.stern.platform.state = .fault ∧
        t.stern.platform.fault = some ⟨.interlock, s.stern.platform.state, s.position .platform,
          s.stern.platform.runMs, Interlock.hatchNotStowed.code⟩ ∧
        t.stern.pack = {} ∧ t.budget.res.stern = none)) ∧
  (∀ (n : Fin 16) (s : State), s.Calm → s.stern.seq.running = false → (s.diCfg n).pulse = false →
    (s.diRt n).stuck = false →
    let shown (on : Bool) := exec (.levelFilterChange n (on == (s.diCfg n).activeHigh) (s.diCfg n).tStable) s
    (s.Unwatched → (s.diRt n).filtered = false → s.roleInput .tenderCradle = some n →
      s.stern.hatch.state = .retracting →
      ∃ t, shown true = .next t ∧ t.stern.hatch.state = .fault ∧
        t.stern.hatch.fault = some ⟨.interlock, .retracting, s.position .hatch, s.stern.hatch.runMs,
          Interlock.tenderInPath.code⟩ ∧ t.budget.res.stern = none) ∧
    (∀ (k : Fin 16) (sub : Subject), (s.diRt n).filtered = false → (s.diCfg n).role = .general →
      (∀ j : Fin 16, j ≠ k → s.cfg.limits.terms[j].enabled = false) →
      s.cfg.limits.terms[k] = { enabled := true, continuous := true, subject := sub, dir := .any,
                                cond := .inputInactive, param := n, group := s.cfg.limits.terms[k].group } →
      (∀ a, (sub = .platform ∧ a = .platform) ∨ (sub = .hatch ∧ a = .hatch) → (s.axis a).state.watched = true →
        ∃ t, shown true = .next t ∧ (t.axis a).state = .fault ∧ (t.axis a).holder = .none ∧
          (t.axis a).fault = some ⟨.permit, (s.axis a).state, s.position a, (s.axis a).runMs, k⟩ ∧
          t.axis (otherAxis a) = s.axis (otherAxis a) ∧ t.budget.res.stern = none ∧ t.wl = s.wl) ∧
      (sub = .windlass → s.wl.state.running = true →
        ∃ t, shown true = .next t ∧ t.wl.state = .braking ∧ t.wl.brakingEnd = some .fault ∧
          t.wl.faultRec = some ⟨.permit, s.wl.state, s.wl.count, s.wl.lastCurrent, k⟩ ∧ t.wl.up = false ∧
          t.wl.down = false ∧ t.budget.res.windlass = none ∧ t.stern = s.stern)) ∧
    (∀ down : Bool, s.Unwatched → s.roleInput (if down then .footDown else .footUp) = some n →
      let src : HoldSource := if down then .footDown else .footUp
      let kind : HoldKind := if down then .down else .up
      let others := s.wl.holds.filter fun x => x.source != src
      ((s.diRt n).filtered = false → s.wl.state.running = true → s.wl.state.dir ≠ kind.dir →
        ∃ t, shown true = .next t ∧ t.wl.state = .braking ∧ t.wl.brakingEnd = some .idle ∧ t.wl.up = false ∧
          t.wl.down = false ∧ t.wl.conflict = true ∧ t.wl.holds = others ++ [⟨src, kind⟩] ∧
          t.budget.res.windlass = none) ∧
      ((s.diRt n).filtered = false → s.wl.state.running = true → s.wl.state.dir = kind.dir →
        ∃ t, shown true = .next t ∧ t.wl = { s.wl with holds := others ++ [⟨src, kind⟩] } ∧
          t.budget = s.budget ∧ Gives .wlHoldIgnored 0 [switchCode down] s t) ∧
      ((s.diRt n).filtered = true → s.wl.holder = .foot → s.wl.state = (if down then .lowering else .hoisting) →
        ∃ t, shown false = .next t ∧ t.wl.state = .braking ∧ t.wl.brakingEnd = some .idle ∧ t.wl.up = false ∧
          t.wl.down = false ∧ t.wl.holder = .none ∧ t.wl.holds = others ∧ t.budget.res.windlass = none) ∧
      ((s.diRt n).filtered = true → s.wl.state.running = false → s.wl.conflict = true →
        ∃ t, shown false = .next t ∧
          t.wl = { s.wl with holds := others, conflict := !others.isEmpty } ∧
          (others = [] → Gives .conflictCleared 0 [] s t))) ∧
    (s.Unwatched → (s.diRt n).filtered = false → s.roleInput .anchorHome = some n →
      (s.wl.state ≠ .hoisting → s.wl.state ≠ .jogging → ∃ t, shown true = .next t ∧
        t.wl = { s.wl with count := 0, status := .verified } ∧ t.stern = s.stern ∧ t.budget = s.budget ∧
        Gives .homeSet 0 [s.wl.count] s t) ∧
      (s.wl.state = .hoisting ∨ s.wl.state = .jogging → ∃ t, shown true = .next t ∧
        t.wl = { s.wl with
          state := .braking, holder := .none, mode := none, target := none, brakingEnd := some .idle, phaseMs := 0,
          jogOn := false, up := false, down := false, stall := none, count := 0, status := .verified } ∧
        t.budget.res = { s.budget.res with windlass := none } ∧ t.stern = s.stern ∧
        Gives .homeSet 0 [s.wl.count] s t ∧
        Gives .wlStopped 0 [codeIn stopCauses .home, 0, 0, s.wl.errors] s t)) ∧
    (∀ (on : Bool) (old new : Source), s.Unwatched → (s.diRt n).filtered = !on → s.roleInput .shorePresent = some n →
      s.vessel.active = old → s.vessel.fresh.isSome → s.cfg.general.shoreInputWins = true →
      new = (if on then .shore else s.vessel.source) → new ≠ old →
      ∃ t, shown on = .next t ∧ t.vessel = { s.vessel with active := new } ∧ t.budget.last = evalFigures t ∧
        t.stern = s.stern ∧ t.wl = s.wl ∧ Gives .sourceChanged 0 [codeIn sources old, codeIn sources new, 2] s t) ∧
    (∀ on : Bool, s.Unwatched → (s.diRt n).filtered = !on → s.roleInput .shorePresent = some n →
      (s.vessel.fresh = none ∧ s.vessel.active = .battery) ∨
        (s.vessel.fresh.isSome ∧ s.cfg.general.shoreInputWins = false ∧ s.vessel.active = s.vessel.source) →
      ∃ t, shown on = .next t ∧ t.vessel = s.vessel ∧ t.budget = s.budget ∧ t.stern = s.stern ∧ t.wl = s.wl) ∧
    (∀ (k : Fin 16) (sub : Subject), (s.diRt n).filtered = false → s.roleInput .shorePresent = some n →
      s.cfg.general.shoreInputWins = true → s.vessel.source ≠ .shore →
      s.vessel.active = (if s.fresh then s.vessel.source else .battery) →
      (∀ j : Fin 16, j ≠ k → s.cfg.limits.terms[j].enabled = false) →
      s.cfg.limits.terms[k] = { enabled := true, continuous := true, subject := sub, dir := .any, cond := .sourceIs,
                                param := codeIn sources s.vessel.source, group := s.cfg.limits.terms[k].group } →
      let derived (t : State) := t.vessel = { s.vessel with active := if s.fresh then .shore else .battery }
      let afterwards (x : Note) (at' : Nat) (v : List Int) (t : State) := s.fresh = true →
        ∃ u, Gives .sourceChanged 0 [codeIn sources s.vessel.active, codeIn sources .shore, 2] s u ∧
          u.link.enabled = s.link.enabled ∧ u.dev.uptime = s.dev.uptime ∧ Gives x at' v u t
      (∀ a, (sub = .platform ∧ a = .platform) ∨ (sub = .hatch ∧ a = .hatch) → (s.axis a).state.watched = true →
        ∃ t, shown true = .next t ∧ derived t ∧ (t.axis a).state = .fault ∧ (t.axis a).holder = .none ∧
          (t.axis a).fault = some ⟨.permit, (s.axis a).state, s.position a, (s.axis a).runMs, k⟩ ∧
          t.axis (otherAxis a) = s.axis (otherAxis a) ∧ t.budget.res.stern = none ∧ t.wl = s.wl ∧
          afterwards .axFault (axisIdx a)
            [codeIn axCauses .permit, codeIn axStates (s.axis a).state, s.positionValue a, k.val] t) ∧
      (sub = .windlass → s.wl.state.running = true →
        ∃ t, shown true = .next t ∧ derived t ∧ t.wl.state = .braking ∧ t.wl.brakingEnd = some .fault ∧
          t.wl.faultRec = some ⟨.permit, s.wl.state, s.wl.count, s.wl.lastCurrent, k⟩ ∧ t.wl.up = false ∧
          t.wl.down = false ∧ t.budget.res.windlass = none ∧ t.stern = s.stern ∧
          afterwards .wlFault 0 [codeIn wlCauses .permit, codeIn wlStates s.wl.state, s.wl.count, k.val] t)) ∧
    (∀ a, s.Unwatched → (s.axis a).state = .stowed → (s.axis (otherAxis a)).state.watched = false →
      let latched (t : State) := (t.axis a).state = .fault ∧ (t.axis a).holder = .none ∧
        (t.axis a).fault = some ⟨.latch, .stowed, s.position a, (s.axis a).runMs, 0⟩ ∧
        t.axis (otherAxis a) = s.axis (otherAxis a) ∧ t.wl = s.wl
      ((s.diRt n).filtered = true → s.roleInput (stowRole a) = some n → ∃ t, shown false = .next t ∧ latched t) ∧
      ((s.diRt n).filtered = false → s.roleInput (latchRole a) = some n → ∃ t, shown true = .next t ∧ latched t) ∧
      ((s.diRt n).filtered = true → s.roleInput (stowRole a) = some n → (s.diCfg n).stuckLimit ≠ 0 →
        (s.diCfg n).stuckLimit * 1000 ≤ (s.diRt n).since → ∃ t, exec (.stuck n) s = .next t ∧ latched t)))

/-- The chain decoder: until it runs the inputs only show their state; a step in OUT order adds a quarter, one
in IN order takes one; the fourth in one direction makes a pulse with the accumulator back at 0; a skipped state
makes none, and counts an error in a run. At rest, off the home switch, a pulse moves the count by one; at the
home switch the count stays 0; an OUT pulse at 9999 and an IN pulse at 0 are clamped, and the first of a burst or
of a run makes the status DRIFTED with COUNT_DRIFTED. In a run, with no permit term and no binding enabled, a
pulse against the direction of a powered run that is the eighth in a row faults it with CHAIN_REVERSED, also
where it would end the run otherwise or enter the jog zone (the model's choice, log 53); a LOWER_TO and a
FREE_FALL end with TARGET at their target count, and a lowering run of any mode short of a target with ROD_END at
MAX_ROD_COUNT; a FREE_FALL short of both ends with OVERSPEED at the second interval in a row below
FREEFALL_MIN_INTERVAL: a pulse that meets several of these ends takes the first (the model's choice, log 52).
HOIST_HOME begins to jog at JOG_ZONE. -/
def Obligations.ChainPulsesAreCounted : Prop :=
  ∀ (a b : Bool) (s : State),
    let c := s.inp.chain
    let change := exec (.chainSensorStateChange a b) s
    let steps := (chainPhase (a, b) + 4 - chainPhase c.sensor) % 4
    (c.running = false → change = .next (s.setChain { c with sensor := (a, b) })) ∧
    (c.running = true →
      (steps = 0 → change = .next s) ∧
      (steps = 1 → c.acc + 1 ≠ 4 → c.acc + 1 ≠ -4 →
        change = .next (s.setChain { c with sensor := (a, b), acc := c.acc + 1 })) ∧
      (steps = 3 → c.acc - 1 ≠ 4 → c.acc - 1 ≠ -4 →
        change = .next (s.setChain { c with sensor := (a, b), acc := c.acc - 1 })) ∧
      (steps = 2 → change = .next
        (let u := s.setChain { c with sensor := (a, b), acc := 0 }
         if s.wl.state.running then u.setWl { s.wl with errors := min 65535 (s.wl.errors + 1) } else u)) ∧
      (s.Calm → s.Unwatched → s.roleActive .anchorHome = false → s.wl.state = .idle →
        (steps = 1 → c.acc = 3 → s.wl.count < 9999 →
          ∃ t, change = .next t ∧ t.wl.count = s.wl.count + 1 ∧ t.wl.status = s.wl.status ∧
            t.wl.state = .idle ∧ t.inp.chain = { c with sensor := (a, b), acc := 0 } ∧
            t.wl.creep = some ((s.wl.creep.map (·.1)).getD 0 + 1, 0) ∧
            t.vessel.anchored = decide (s.cfg.windlass.anchoredMin ≤ t.chainLength)) ∧
        (steps = 3 → c.acc = -3 → 0 < s.wl.count →
          ∃ t, change = .next t ∧ t.wl.count = s.wl.count - 1 ∧ t.wl.status = s.wl.status ∧
            t.wl.state = .idle ∧ t.inp.chain = { c with sensor := (a, b), acc := 0 } ∧
            t.wl.creep = some ((s.wl.creep.map (·.1)).getD 0 - 1, 0) ∧
            t.vessel.anchored = decide (s.cfg.windlass.anchoredMin ≤ t.chainLength))) ∧
      (s.Calm → s.Unwatched → s.wl.state = .idle →
        let pulse (out : Bool) := if out then steps = 1 ∧ c.acc = 3 else steps = 3 ∧ c.acc = -3
        let counted (t : State) (out : Bool) (n : Nat) := t.wl.count = n ∧ t.wl.state = .idle ∧
          t.wl.creep = some ((s.wl.creep.map (·.1)).getD 0 + (if out then 1 else -1), 0)
        let drifts (out : Bool) (n : Nat) := ∃ t, change = .next t ∧ counted t out n ∧ t.wl.status = .drifted ∧
          t.wl.driftNoted = true ∧ (s.wl.creep = none ∨ s.wl.driftNoted = false →
            Gives .countDrifted 0 [n, if out then 0 else 1] s t)
        (s.roleActive .anchorHome = false → s.wl.count = 9999 → pulse true → drifts true 9999) ∧
        (s.roleActive .anchorHome = false → s.wl.count = 0 → pulse false → drifts false 0) ∧
        (∀ out, s.roleActive .anchorHome = true → pulse out →
          ∃ t, change = .next t ∧ counted t out 0 ∧ t.wl.status = s.wl.status)) ∧
      (s.Calm → s.Unwatched → s.roleActive .anchorHome = false → s.vessel.anchored = false →
        s.wl.state = .hoisting → s.wl.mode = some .hold → s.wl.count = 0 → steps = 3 → c.acc = -3 →
        ∃ t, change = .next t ∧
          t.wl = { s.wl with quietMs := 0, disagree := 0, status := .drifted, driftNoted := true } ∧
          (s.wl.driftNoted = false → Gives .countDrifted 0 [0, 1] s t) ∧
          (s.wl.driftNoted = true → t.link = s.link)) ∧
      (s.Calm → s.Unwatched → s.roleActive .anchorHome = false → s.vessel.anchored = false →
        let braked (t : State) (n : Nat) := t.wl.state = .braking ∧ t.wl.count = n ∧ t.wl.up = false ∧
          t.wl.down = false ∧ t.wl.holder = .none ∧ t.budget.res.windlass = none ∧ t.stern = s.stern
        let stops (n : Nat) (why : StopCause) := ∃ t, change = .next t ∧ braked t n ∧
          t.wl.brakingEnd = some .idle ∧
          Gives .wlStopped 0 [codeIn stopCauses why, n, t.chainLength, s.wl.errors] s t
        (steps = 1 → c.acc = 3 → s.wl.count < 9999 →
          (∀ x, s.wl.state = .lowering → s.wl.mode = some .lowerTo → s.wl.target = some x → x ≤ s.wl.count + 1 →
            stops (s.wl.count + 1) .target) ∧
          (s.wl.state = .lowering → s.wl.mode = some .hold → s.cfg.windlass.maxRod ≤ s.wl.count + 1 →
            stops (s.wl.count + 1) .rodEnd) ∧
          (∀ x, s.wl.state = .lowering → s.wl.mode = some .lowerTo → s.wl.target = some x → s.wl.count + 1 < x →
            s.cfg.windlass.maxRod ≤ s.wl.count + 1 → stops (s.wl.count + 1) .rodEnd) ∧
          (∀ x, s.wl.state = .freeFall → s.wl.target = some x → x ≤ s.wl.count + 1 →
            stops (s.wl.count + 1) .target) ∧
          (∀ x, s.wl.state = .freeFall → s.wl.target = some x → s.wl.count + 1 < x →
            s.cfg.windlass.maxRod ≤ s.wl.count + 1 → stops (s.wl.count + 1) .rodEnd) ∧
          (∀ x last gap, s.wl.state = .freeFall → s.wl.target = some x → s.wl.count + 1 < x →
            s.wl.count + 1 < s.cfg.windlass.maxRod → s.wl.lastOut = some last → s.wl.lastGap = some gap →
            s.sinceUptime last < s.cfg.limits.freefallMin →
            stops (s.wl.count + 1) .overspeed ∧
              ∀ t, change = .next t → Gives .overspeed 0 [gap, s.sinceUptime last] s t) ∧
          (s.wl.state = .hoisting → s.wl.disagree = 7 →
            ∃ t, change = .next t ∧ braked t (s.wl.count + 1) ∧ t.wl.brakingEnd = some .fault ∧
              t.wl.faultRec = some ⟨.chainReversed, .hoisting, s.wl.count + 1, s.wl.lastCurrent, 0⟩)) ∧
        (steps = 3 → c.acc = -3 → 0 < s.wl.count →
          (s.wl.state = .lowering → s.wl.disagree = 7 →
            ∃ t, change = .next t ∧ braked t (s.wl.count - 1) ∧ t.wl.brakingEnd = some .fault ∧
              t.wl.faultRec = some ⟨.chainReversed, .lowering, s.wl.count - 1, s.wl.lastCurrent, 0⟩) ∧
          (s.wl.state = .hoisting → s.wl.mode = some .hoistHome → s.wl.jogs < 9 →
            ∃ t, change = .next t ∧ t.wl.count = s.wl.count - 1 ∧ t.wl.disagree = 0 ∧
              (s.cfg.windlass.jogZone < s.wl.count - 1 → t.wl.state = .hoisting ∧ t.wl.up = s.wl.up) ∧
              (s.wl.count - 1 ≤ s.cfg.windlass.jogZone → t.wl.state = .jogging ∧ t.wl.jogOn = true ∧
                t.wl.phaseMs = 0 ∧ t.wl.up = true ∧ t.wl.brakeFree = true ∧
                t.wl.jogs = if s.wl.count = 1 then s.wl.jogs + 1 else s.wl.jogs)))))

/-- 3000 ms after the last SET_VESSEL_DATA the record becomes STALE with VESSEL_STALE, and the active source is
BATTERY; no motion stops for it. -/
def Obligations.TheRecordBecomesStale : Prop :=
  ∀ s : State, s.vessel.fresh = some 0 → ∃ t, exec .stalenessTimerExpiry s = .next t ∧
    t.vessel = { s.vessel with fresh := none, active := .battery } ∧ t.stern = s.stern ∧ t.wl = s.wl ∧
    t.cfg = s.cfg ∧ t.link.device = s.link.device ∧
    (s.vessel.active = .battery → t = notice .vesselStale 0 [s.vessel.speed, codeIn sources s.vessel.source, 0]
      { s with vessel := { s.vessel with fresh := none } })

/-! ### Stern motion -/

/-- AXIS_MOVE of an axis at rest, with its checks passed, no permit term and no binding enabled, the pump OFF
and STERN admitted: a STOWED axis enters UNLATCHING with its latch solenoid on and the pump off; one off its
seat drives out or in with the pump LEAD, its valve still closed; toward 0 with its stow end active it passes
LATCHING to STOWED at once, without a reservation. The holder is HOST, the target settled, and the other axis
stays. -/
def Obligations.AxisMoveBegins : Prop :=
  ∀ (q : Req) (a : AxisId) (target : Nat) (s : State), q.len = 3 → s.Takes → s.Calm → s.Unwatched →
    (a = .hatch → target = 0 ∨ target = 1000) → s.stern.seq.running = false → (s.axis a).cooldown = none →
    failingInterlock a (settleTarget a target s.cfg.limits) s = none → s.stern.pack.pump = .off →
    let tgt := settleTarget a target s.cfg.limits
    let x := s.axis a
    let admitted := s.budget.res.stern = none ∧ s.budget.supply = .normal ∧
      s.budget.last.c0 + s.budget.res.total + (s.axCfg a).amount + s.cfg.limits.margin ≤
        s.cfg.supply.limit s.vessel.active
    let begun (t : State) (st : AxState) := t.link.replies = s.link.replies ++ [⟨0x10, q.tag, .ok, 0, []⟩] ∧
      (t.axis a).state = st ∧ (t.axis a).target = tgt ∧ (t.axis a).holder = .host ∧ (t.axis a).runMs = 0 ∧
      (t.axis a).phaseMs = 0 ∧ t.axis (otherAxis a) = s.axis (otherAxis a) ∧ t.wl = s.wl ∧ t.cfg = s.cfg ∧
      t.stern.seq = s.stern.seq ∧ t.stern.pack.valve = s.stern.pack.valve
    (x.state = .stowed → tgt ≠ 0 → s.roleHeld (latchRole a) = true → admitted →
      ∃ t, exec (.axisMove q (axisIdx a) target) s = .next t ∧ begun t .unlatching ∧ (t.axis a).latchHold = true ∧
        t.stern.pack = s.stern.pack ∧ t.budget.res.stern = some (s.axCfg a).amount) ∧
    (∀ v, (x.state = .halted ∨ x.state = .extended) → s.position a = some v → v < tgt → admitted →
      0 < (s.axCfg a).pumpLead →
      ∃ t, exec (.axisMove q (axisIdx a) target) s = .next t ∧ begun t .extending ∧
        t.stern.pack.pump = .lead ∧ t.stern.pack.axis = some a ∧ t.stern.pack.onMs = 0 ∧
        t.budget.res.stern = some (s.axCfg a).amount) ∧
    (∀ v, (x.state = .halted ∨ x.state = .extended) → s.position a = some v → tgt < v → tgt ≠ 0 → admitted →
      0 < (s.axCfg a).pumpLead →
      ∃ t, exec (.axisMove q (axisIdx a) target) s = .next t ∧ begun t .retracting ∧
        t.stern.pack.pump = .lead ∧ t.stern.pack.axis = some a ∧ t.budget.res.stern = some (s.axCfg a).amount) ∧
    ((x.state = .halted ∨ x.state = .extended) → tgt = 0 → s.roleHeld (stowRole a) = true →
      s.roleHeld (latchRole a) = true → s.roleActive (stowRole a) = false → admitted → 0 < (s.axCfg a).pumpLead →
      ∃ t, exec (.axisMove q (axisIdx a) target) s = .next t ∧ begun t .retracting ∧
        t.stern.pack.pump = .lead ∧ t.stern.pack.axis = some a ∧ t.budget.res.stern = some (s.axCfg a).amount) ∧
    ((x.state = .halted ∨ x.state = .extended) → tgt = 0 → s.roleHeld (stowRole a) = true →
      s.roleHeld (latchRole a) = true → s.roleActive (stowRole a) = true →
      ∃ t, exec (.axisMove q (axisIdx a) target) s = .next t ∧ (t.axis a).state = .stowed ∧
        (t.axis a).holder = .none ∧ (t.axis a).target = 0 ∧ t.axis (otherAxis a) = s.axis (otherAxis a) ∧
        t.stern.pack = s.stern.pack ∧ t.budget.res = s.budget.res ∧ t.wl = s.wl ∧
        t.link.replies = s.link.replies ++ [⟨0x10, q.tag, .ok, 0, []⟩])

/-- AXIS_MOVE is refused by the first of its checks that fails, and then changes nothing; a start that finds no
move is answered OK and changes nothing. An absent role is judged before the move is found to be none, so that
target 0 of a STOWED axis without its roles is NOT_READY (the model's choice, log 35). The five interlocks fail as
their table says, in its order: each refuses the starts it applies to, HATCH_NOT_STOWED by HATCH_CLEARANCE as it
stands in the working copy (the model's choice, log 73). The platform is clear at rest with a valid position at or
above the clearance: so is one in FAULT(POSITION_SENSOR) whose sensor is valid again (the model's choice, log 44).
-/
def Obligations.AxisMoveIsChecked : Prop :=
  (∀ (q : Req) (a : AxisId) (target : Nat) (s : State), q.len = 3 → s.Takes → s.Between →
     let refused (c : Status) (d : Nat) := exec (.axisMove q (axisIdx a) target) s =
       .next (withReply 0x10 q ⟨c, d, []⟩ s)
     let tgt := settleTarget a target s.cfg.limits
     let x := s.axis a
     (∀ n, 2 ≤ n → exec (.axisMove q n target) s = .next (withReply 0x10 q (Ans.refused .outOfRange) s)) ∧
     (a = .hatch → target ≠ 0 → target ≠ 1000 → refused .outOfRange 0) ∧
     ((a = .hatch → target = 0 ∨ target = 1000) →
       (x.state = .fault → refused .faulted 0) ∧
       (x.state.moving = true → refused .busy 0) ∧
       (x.state ≠ .fault → x.state.moving = false →
         (s.stern.seq.running = true → refused .busy 0) ∧
         (∀ ms, s.stern.seq.running = false → x.cooldown = some ms → 0 < ms → refused .lockout 0) ∧
         (s.stern.seq.running = false → x.cooldown = none →
           ((tgt = 0 ∧ s.roleHeld (stowRole a) = false) ∨
             ((tgt = 0 ∨ x.state = .stowed) ∧ s.roleHeld (latchRole a) = false) → refused .notReady 0) ∧
           (s.lacksRole a tgt = false →
             (s.moveFor a tgt = none → refused .ok 0) ∧
             (∀ m, s.moveFor a tgt = some m →
               (∀ i, failingInterlock a tgt s = some i → refused .interlock i.code) ∧
               (∀ n, failingInterlock a tgt s = none → axisPermit a tgt m.dir s = some (.notPermitted, n) →
                 refused .notPermitted n) ∧
               (∀ c, axisPermit a tgt m.dir s = none → m ≠ .latch →
                 (if s.stern.pack.pump = .runOn then reserveFor .stern (s.axCfg a).amount s
                   else requestNew .stern (s.axCfg a).amount s) = .error c → refused c 0))))))) ∧
  (∀ (a : AxisId) (target : Nat) (s : State),
     (a = .hatch → s.platformClear = false → failingInterlock a target s = some .platformNotClear) ∧
     (a = .platform → s.stern.hatch.state.moving = true → failingInterlock a target s = some .hatchMoving) ∧
     (a = .platform → s.stern.hatch.state.moving = false → target < s.cfg.limits.hatchClearance →
       s.stern.hatch.state ≠ .stowed → failingInterlock a target s = some .hatchNotStowed) ∧
     (a = .hatch → s.platformClear = true → target = 0 → s.roleActive .tenderCradle = true →
       failingInterlock a target s = some .tenderInPath) ∧
     (a = .platform → s.stern.hatch.state = .stowed → target = 0 → s.roleActive .platLatchFree = true →
       failingInterlock a target s = some .latchOpen) ∧
     (a = .hatch → s.platformClear = true → target = 0 → s.roleActive .tenderCradle = false →
       s.roleActive .hatchLatchFree = true → failingInterlock a target s = some .latchOpen) ∧
     (s.platformClear = true ↔ s.stern.platform.state.moving = false ∧
       ∃ v, s.position .platform = some v ∧ s.stern.clearance ≤ v))

/-- AXIS_STOP: an axis that drives comes to rest with its valve closed and the pump in RUN_ON for 200 ms, EXTENDED
at its out end and HALTED otherwise; one in LATCHING goes on; one at rest stays; the holder becomes NONE. A code
above BOTH is refused. AXIS_CLEAR_FAULT: FAULT is left for STOWED at the stow end and for HALTED elsewhere, unless
the cause is still present; the cooldown stays. The platform's clear state is judged with its new state, which
stops no hatch in motion (the model's choice, log 95). -/
def Obligations.AxesAreStoppedAndCleared : Prop :=
  (∀ (q : Req) (a : AxisId) (s : State), q.len = 1 → s.Takes → s.Calm → s.stern.seq.running = false →
     let stop := exec (.axisStop q (axisIdx a)) s
     ((s.axis a).state.driving = true → ∃ t, stop = .next t ∧
       (t.axis a).state = (if s.roleActive (outRole a) then .extended else .halted) ∧ (t.axis a).holder = .none ∧
       (t.axis a).latchHold = false ∧ t.stern.pack.pump = .runOn ∧ t.stern.pack.axis = some a ∧
       t.stern.pack.runOn = 200 ∧ t.stern.pack.valve = none ∧ t.stern.pack.flow = 0 ∧
       t.axis (otherAxis a) = s.axis (otherAxis a) ∧ t.budget.res = s.budget.res ∧ t.wl = s.wl ∧
       t.link.replies = s.link.replies ++ [⟨0x11, q.tag, .ok, 0, []⟩]) ∧
     ((s.axis a).state = .unlatching → s.roleActive (latchRole a) = true → ∃ t, stop = .next t ∧
       (t.axis a).state = .latching ∧ (t.axis a).phaseMs = 0 ∧ (t.axis a).latchHold = false ∧
       (t.axis a).holder = .none ∧ t.budget.res.stern = none) ∧
     ((s.axis a).state = .latching ∨ (s.axis a).state = .stowed ∨ (s.axis a).state = .extended ∨
         (s.axis a).state = .halted ∨ (s.axis a).state = .fault →
       (∀ ad k, (s.axis a).holder ≠ .panel ad k) →
       stop = .next (withReply 0x11 q Ans.ok (s.modAxis a fun x => { x with holder := .none }))) ∧
     (∀ n, 3 ≤ n → exec (.axisStop q n) s = .next (withReply 0x11 q (Ans.refused .outOfRange) s))) ∧
  (∀ (q : Req) (a : AxisId) (s : State), q.len = 1 → s.Takes →
     let clear := exec (.axisClearFault q (axisIdx a)) s
     ((s.axis a).state ≠ .fault → clear = .next (withReply 0x13 q (Ans.refused .notFaulted) s)) ∧
     ((s.axis a).state = .fault → (s.position a = none ∨
         ((s.axis a).fault.map (·.cause) = some .supply ∧ s.budget.supply = .critical) ∨
         (s.roleActive (stowRole a) = true ∧ s.roleActive (latchRole a) = true)) →
       clear = .next (withReply 0x13 q (Ans.refused .faulted) s)) ∧
     (∀ v, (s.axis a).state = .fault → s.position a = some v →
       ¬((s.axis a).fault.map (·.cause) = some .supply ∧ s.budget.supply = .critical) →
       ¬(s.roleActive (stowRole a) = true ∧ s.roleActive (latchRole a) = true) →
       let st : AxState := if s.roleActive (stowRole a) then .stowed else .halted
       clear = .next (formReply 0x13 q.tag Ans.ok (notice .axFaultCleared (axisIdx a) [codeIn axStates st]
         (judgeClear a ((s.taken 0x13 q).modAxis a fun x => { x with state := st, fault := none }))))) ∧
     (∀ n, 2 ≤ n → exec (.axisClearFault q n) s = .next (withReply 0x13 q (Ans.refused .outOfRange) s)))

/-- The four ways a move times out: 3000 ms in UNLATCHING or LATCHING with the latch input as it should not be
(LATCH), the run timer at RUN_LIMIT (RUN_TIMEOUT, then the cooldown), 2000 ms without a move of 5 (NO_PROGRESS).
The axis is in FAULT with the record of it, its holder NONE and its latch solenoid off; an axis that drove has
the pack off and STERN released. -/
def Obligations.MovesTimeOut : Prop :=
  ∀ (a : AxisId) (s : State), s.Calm → s.stern.seq.running = false →
    let faulted (t : State) (c : AxCause) :=
      (t.axis a).state = .fault ∧ (t.axis a).holder = .none ∧ (t.axis a).latchHold = false ∧
      (t.axis a).fault = some ⟨c, (s.axis a).state, s.position a, (s.axis a).runMs, 0⟩ ∧
      t.axis (otherAxis a) = s.axis (otherAxis a) ∧ t.wl = s.wl ∧ t.cfg = s.cfg
    ((s.axis a).state = .unlatching → 3000 ≤ (s.axis a).phaseMs → s.roleActive (latchRole a) = false →
      ∃ t, exec (.unlatchTimeout a) s = .next t ∧ faulted t .latch ∧ t.budget.res.stern = none) ∧
    ((s.axis a).state = .latching → 3000 ≤ (s.axis a).phaseMs → s.roleActive (latchRole a) = true →
      ∃ t, exec (.latchTimeout a) s = .next t ∧ faulted t .latch) ∧
    ((s.axis a).state.driving = true → s.stern.pack.axis = some a → s.runLimit a ≤ (s.axis a).runMs →
      ∃ t, exec (.runTimeout a) s = .next t ∧ faulted t .runTimeout ∧ t.stern.pack = {} ∧
        t.budget.res.stern = none ∧ (t.axis a).cooldown = some (s.cooldownTime a * 1000)) ∧
    (∀ w, (s.axis a).state.driving = true → s.stern.pack.axis = some a → s.stern.pack.valve.isSome →
      (s.axis a).window = some w → 2000 ≤ w.2 →
      ∃ t, exec (.noProgress a) s = .next t ∧ faulted t .noProgress ∧ t.stern.pack = {} ∧ t.budget.res.stern = none)

/-- The pump lead ends: the axis's direction valve opens with the flow of its distance. The run-on ends: the
pump goes off and STERN is released. The cooldown ends with its notice. The end and latch switches move an axis,
with no binding and no permit term enabled and no sequence in a step: the latch comes free in UNLATCHING and the
axis extends with the pump LEAD; the out end ends EXTENDING in EXTENDED with the run-on; the stow end ends
RETRACTING in LATCHING, or in STOWED where the latch is closed. -/
def Obligations.TheDriveGoesOn : Prop :=
  (∀ (a : AxisId) (s : State),
     (∀ v, s.stern.pack.pump = .lead → s.stern.pack.axis = some a → (s.axis a).state.driving = true →
       s.stern.pack.lead ≤ s.stern.pack.onMs → s.position a = some v →
       ∃ t, exec .pumpLeadEnd s = .next t ∧ t.stern.pack = { s.stern.pack with
           pump := .running
           valve := some (a, if (s.axis a).state = .extending then Dir.outward else Dir.inward)
           flow := if (s.axCfg a).slowZone < ((s.axis a).target - v) + (v - (s.axis a).target)
             then (s.axCfg a).flowFull else (s.axCfg a).flowCreep } ∧
         (t.axis a).state = (s.axis a).state ∧ (t.axis a).target = (s.axis a).target ∧
         t.axis (otherAxis a) = s.axis (otherAxis a) ∧ t.wl = s.wl ∧ t.budget = s.budget ∧ t.link = s.link) ∧
     (s.stern.pack.pump = .runOn → s.stern.pack.runOn = 0 → ∃ t, exec .runOnEnd s = .next t ∧ t.stern.pack = {} ∧
       t.budget.res.stern = none ∧ (∀ b, t.axis b = s.axis b) ∧ t.wl = s.wl ∧ t.cfg = s.cfg) ∧
     ((s.axis a).cooldown = some 0 → exec (.cooldownEnd a) s = .next
       (notice .cooldownEnd (axisIdx a) [] (s.modAxis a fun x => { x with cooldown := none })))) ∧
  (∀ (a : AxisId) (n : Fin 16) (pin : Bool) (s : State), s.Calm → s.Unwatched → s.stern.seq.running = false →
     (s.diCfg n).pulse = false → (s.diRt n).filtered = false → (s.diRt n).stuck = false → pin = (s.diCfg n).activeHigh →
     let change := exec (.levelFilterChange n pin (s.diCfg n).tStable) s
     (s.roleInput (latchRole a) = some n → (s.axis a).state = .unlatching → 0 < (s.axCfg a).pumpLead →
       s.stern.pack.pump = .off →
       ∃ t, change = .next t ∧ (t.axis a).state = .extending ∧ t.stern.pack.pump = .lead ∧
         t.stern.pack.axis = some a ∧ (t.axis a).phaseMs = 0 ∧ (t.axis a).holder = (s.axis a).holder) ∧
     (s.roleInput (outRole a) = some n → (s.axis a).state = .extending →
       ∃ t, change = .next t ∧ (t.axis a).state = .extended ∧ (t.axis a).holder = .none ∧
         t.stern.pack.pump = .runOn ∧ t.stern.pack.runOn = 200 ∧ t.stern.pack.valve = none ∧ t.stern.pack.flow = 0) ∧
     (s.roleInput (stowRole a) = some n → (s.axis a).state = .retracting →
       ∃ t, change = .next t ∧
         (t.axis a).state = (if s.roleActive (latchRole a) then .latching else .stowed) ∧
         t.stern.pack.pump = .runOn ∧ t.stern.pack.runOn = 200 ∧ t.stern.pack.valve = none ∧ t.stern.pack.flow = 0))

/-- SEQUENCE_START: BUSY in a step and OUT_OF_RANGE for an unknown kind, then nothing changes; a sequence whose
steps are both skipped goes to DONE within its start; GARAGE_CLOSE of an EXTENDED hatch starts the hatch toward
0 in STEP1, held by the sequence; a refused step makes it ABORTED with the code. In a step: the platform that
reaches its out end in STEP1 of GARAGE_OPEN begins STEP2, in which a STOWED hatch unlatches with the pump handed
over and off; the hatch that reaches its out end in STEP2 ends the sequence DONE; an AXIS_STOP that names either
axis or both stops the step axis and makes the sequence ABORTED with STOPPED; a step axis that faults makes it
ABORTED with the fault cause. SEQUENCE_END carries DONE as 0 and ABORTED as 1, and an absent step and cause as
255 and 65535: the model's reading (logs 16 and 19). -/
def Obligations.SequencesRunTheirSteps : Prop :=
  (∀ (q : Req) (s : State), q.len = 1 → s.Takes → s.Calm → s.Unwatched →
    (∀ n, 2 ≤ n → exec (.sequenceStart q n) s = .next (withReply 0x14 q (Ans.refused .outOfRange) s)) ∧
    (∀ k, s.stern.seq.running = true →
      exec (.sequenceStart q (codeIn seqKinds k)) s = .next (withReply 0x14 q (Ans.refused .busy) s)) ∧
    (s.stern.seq.running = false → s.platformClear = true → s.stern.hatch.state = .extended →
      ∃ t, exec (.sequenceStart q 0) s = .next t ∧
        t.stern.seq = { state := .done, kind := some .garageOpen, axis := none, holder := .host, ended := none } ∧
        (∀ a, t.axis a = s.axis a) ∧ t.stern.pack = s.stern.pack ∧
        t.link.replies = s.link.replies ++ [⟨0x14, q.tag, .ok, 0, []⟩]) ∧
    (s.stern.seq.running = false → s.stern.hatch.state = .stowed → s.cfg.axes.stowAfterClose = false →
      ∃ t, exec (.sequenceStart q 1) s = .next t ∧
        t.stern.seq = { state := .done, kind := some .garageClose, axis := none, holder := .host, ended := none } ∧
        (∀ a, t.axis a = s.axis a) ∧ t.stern.pack = s.stern.pack ∧
        t.link.replies = s.link.replies ++ [⟨0x14, q.tag, .ok, 0, []⟩]) ∧
    (s.stern.seq.running = false → s.stern.hatch.state = .extended → s.stern.hatch.cooldown = none →
      failingInterlock .hatch 0 s = none → s.roleHeld .hatchClosedEnd = true → s.roleHeld .hatchLatchFree = true →
      s.roleActive .hatchClosedEnd = false → s.stern.pack.pump = .off → 0 < s.cfg.axes.hatch.pumpLead →
      s.budget.res.stern = none → s.budget.supply = .normal →
      s.budget.last.c0 + s.budget.res.total + s.cfg.axes.hatch.amount + s.cfg.limits.margin ≤
        s.cfg.supply.limit s.vessel.active →
      ∃ t, exec (.sequenceStart q 1) s = .next t ∧
        t.stern.seq = { state := .step1, kind := some .garageClose, axis := some .hatch, holder := .host,
                        ended := none } ∧
        t.stern.hatch.state = .retracting ∧ t.stern.hatch.holder = .sequence ∧ t.stern.hatch.target = 0 ∧
        t.stern.platform = s.stern.platform ∧ t.stern.pack.pump = .lead ∧
        t.link.replies = s.link.replies ++ [⟨0x14, q.tag, .ok, 0, []⟩]) ∧
    (∀ i, s.stern.seq.running = false → s.stern.hatch.state = .extended → s.stern.hatch.cooldown = none →
      s.roleHeld .hatchClosedEnd = true → s.roleHeld .hatchLatchFree = true → failingInterlock .hatch 0 s = some i →
      ∃ t, exec (.sequenceStart q 1) s = .next t ∧ t.stern.seq.state = .aborted ∧
        t.stern.seq.ended = some (1, .refused .interlock) ∧ (∀ a, t.axis a = s.axis a) ∧
        t.link.replies = s.link.replies ++ [⟨0x14, q.tag, .interlock, i.code, []⟩])) ∧
  (∀ (n : Fin 16) (s : State), s.Calm → s.Unwatched → (s.diCfg n).pulse = false → (s.diRt n).filtered = false →
    (s.diRt n).stuck = false → s.stern.seq.kind = some .garageOpen → (∀ a k, s.stern.seq.holder ≠ .panel a k) →
    let change := exec (.levelFilterChange n (s.diCfg n).activeHigh (s.diCfg n).tStable) s
    (∀ v, s.roleInput .platOutEnd = some n → s.stern.seq.state = .step1 → s.stern.seq.axis = some .platform →
      s.stern.platform.state = .extending → s.stern.platform.holder = .sequence → s.stern.hatch.state = .stowed →
      s.stern.hatch.cooldown = none → s.roleHeld .hatchLatchFree = true → s.position .platform = some v →
      s.cfg.limits.hatchClearance ≤ v → (∃ held, s.budget.res.stern = some held ∧ s.cfg.axes.hatch.amount ≤ held) →
      ∃ t, change = .next t ∧
        t.stern.seq = { s.stern.seq with state := .step2, axis := some .hatch } ∧
        t.stern.platform.state = .extended ∧ t.stern.platform.holder = .none ∧
        t.stern.hatch.state = .unlatching ∧ t.stern.hatch.holder = .sequence ∧ t.stern.hatch.target = 1000 ∧
        t.stern.hatch.latchHold = true ∧ t.stern.pack = {} ∧
        t.budget.res.stern = some s.cfg.axes.hatch.amount) ∧
    (s.roleInput .hatchOpenEnd = some n → s.stern.seq.state = .step2 → s.stern.seq.axis = some .hatch →
      s.stern.hatch.state = .extending → s.stern.hatch.holder = .sequence →
      ∃ t, change = .next t ∧
        t.stern.seq = { s.stern.seq with state := .done, axis := none, ended := none } ∧
        t.stern.hatch.state = .extended ∧ t.stern.hatch.holder = .none ∧ t.stern.pack.pump = .runOn ∧
        t.stern.platform = s.stern.platform ∧
        Gives .sequenceEnd 2 [codeIn seqKinds .garageOpen, 0, 255, 65535] s t)) ∧
  (∀ (a : AxisId) (s : State), s.Calm → s.stern.seq.running = true → (∀ ad k, s.stern.seq.holder ≠ .panel ad k) →
    s.stern.seq.axis = some a → (s.axis a).state.driving = true → (s.axis a).holder = .sequence →
    (s.axis (otherAxis a)).state.moving = false → (∀ ad k, (s.axis (otherAxis a)).holder ≠ .panel ad k) →
    let aborted (t : State) (c : SeqCause) :=
      t.stern.seq = { s.stern.seq with state := .aborted, axis := none, ended := some (s.stern.seq.step, c) } ∧
      (t.axis a).holder = .none ∧ (t.axis (otherAxis a)).state = (s.axis (otherAxis a)).state ∧
      Gives .sequenceEnd 2 ([((s.stern.seq.kind.map (codeIn seqKinds)).getD 255 : Int), 1] ++
        seqEndValues (some (s.stern.seq.step, c))) s t
    (∀ (q : Req) (which : Nat), q.len = 1 → s.link.resetReply = false → which ≤ 2 →
      ∃ t, exec (.axisStop q which) s = .next t ∧ aborted t .stopped ∧
        (t.axis a).state = (if s.roleActive (outRole a) then .extended else .halted) ∧
        t.stern.pack.pump = .runOn ∧ t.stern.pack.valve = none ∧
        t.link.replies = s.link.replies ++ [⟨0x11, q.tag, .ok, 0, []⟩]) ∧
    (s.stern.pack.axis = some a → s.runLimit a ≤ (s.axis a).runMs →
      ∃ t, exec (.runTimeout a) s = .next t ∧ aborted t (.faulted .runTimeout) ∧ (t.axis a).state = .fault ∧
        t.stern.pack = {} ∧ t.budget.res.stern = none))

/-! ### The windlass -/

/-- WINDLASS_COMMAND from IDLE with its checks passed, no hold, no permit term and no binding enabled, and
WINDLASS admitted: LOWER and LOWER_TO (its target held to MAX_ROD_COUNT) put DOWN and BRAKE_FREE on in LOWERING,
HOIST and HOIST_HOME put UP and BRAKE_FREE on in HOISTING, and HOIST_HOME within JOG_ZONE begins its first jog,
counted where the count is 0. The holder is HOST, the counters of a run are 0, WINDLASS is reserved, and the
anchored flag clears. No stall time runs yet, also where the current stands above STALL_CURRENT as the contactor
comes on (the model's choice, log 54). A start in the direction of the host's own run replaces its mode and
target, without a new permit or reservation, and is answered OK: LOWER and HOIST make it a HOLD run, HOIST in
JOGGING makes it HOISTING at once, a LOWER_TO at or below the count ends it with TARGET, and HOIST_HOME begins to
jog at or below JOG_ZONE, also where it replaces a HOIST_HOME (log 51). -/
def Obligations.WindlassRunsBegin : Prop :=
  (∀ (q : Req) (x : Nat) (s : State), q.len = 3 → s.Takes → s.Calm → s.Unwatched → s.wl.state = .idle →
    s.wl.conflict = false → s.wl.holds = [] → s.motorCurrent.isSome → s.budget.res.windlass = none →
    s.budget.supply = .normal →
    s.budget.last.c0 + s.budget.res.total + s.cfg.windlass.amount + s.cfg.limits.margin ≤
      s.cfg.supply.limit s.vessel.active →
    let begun (i : Instr) (st : WlState) (mode : WlMode) (target : Option Nat) (up : Bool) (jogs : Nat) (jog : Bool) :=
      ∃ t, exec i s = .next t ∧ t.link.replies = s.link.replies ++ [⟨0x15, q.tag, .ok, 0, []⟩] ∧
        t.wl = { s.wl with
          state := st, holder := .host, mode := some mode, target := target, up := up, down := !up, brakeFree := true,
          jogs := jogs, jogOn := jog || s.wl.jogOn, phaseMs := if jog then 0 else s.wl.phaseMs, disagree := 0,
          errors := 0, driftNoted := false, creep := none, stall := none, lastOut := none, lastGap := none } ∧
        t.budget.res = { s.budget.res with windlass := some s.cfg.windlass.amount } ∧ t.vessel.anchored = false ∧
        t.stern = s.stern ∧ t.scene = s.scene ∧ t.panel = s.panel ∧ t.bind = s.bind ∧ t.inp = s.inp ∧ t.cfg = s.cfg
    begun (.windlassCommandLower q 0 x) .lowering .hold none false 0 false ∧
    (s.roleActive .anchorHome = false → begun (.windlassCommandHoist q 1 x) .hoisting .hold none true 0 false) ∧
    (1 ≤ x → x ≤ 9999 → s.wl.count < min x s.cfg.windlass.maxRod → begun (.windlassCommandLowerTo q 2 x) .lowering
      .lowerTo (some (min x s.cfg.windlass.maxRod)) false 0 false) ∧
    (s.roleHeld .anchorHome = true → s.roleActive .anchorHome = false →
      (s.cfg.windlass.jogZone < s.wl.count →
        begun (.windlassCommandHoistHome q 3 x) .hoisting .hoistHome none true 0 false) ∧
      (s.wl.count ≤ s.cfg.windlass.jogZone → begun (.windlassCommandHoistHome q 3 x) .jogging .hoistHome none true
        (if s.wl.count = 0 then 1 else 0) true))) ∧
  (∀ (q : Req) (x : Nat) (s : State), q.len = 3 → s.Takes → s.wl.holder = .host →
    let now (i : Instr) (w : Windlass) := exec i s = .next (withReply 0x15 q Ans.ok (s.setWl w))
    let w := s.wl
    let target := min x s.cfg.windlass.maxRod
    let jogs := if w.count = 0 then w.jogs + 1 else w.jogs
    (w.state = .lowering →
      now (.windlassCommandLower q 0 x) { w with mode := some .hold, target := none } ∧
      (1 ≤ x → x ≤ 9999 → w.count < target →
        now (.windlassCommandLowerTo q 2 x) { w with mode := some .lowerTo, target := some target }) ∧
      (1 ≤ x → x ≤ 9999 → target ≤ w.count → s.Calm → ∃ t, exec (.windlassCommandLowerTo q 2 x) s = .next t ∧
        t.wl = { w with
          state := .braking, holder := .none, mode := none, target := none, brakingEnd := some .idle, phaseMs := 0,
          jogOn := false, up := false, down := false, stall := none } ∧
        t.budget.res = { s.budget.res with windlass := none } ∧
        Gives .wlStopped 0 [codeIn stopCauses .target, w.count, s.chainLength, w.errors] s t ∧
        t.link.replies = s.link.replies ++ [⟨0x15, q.tag, .ok, 0, []⟩])) ∧
    (w.state = .hoisting →
      now (.windlassCommandHoist q 1 x) { w with mode := some .hold, target := none } ∧
      (s.cfg.windlass.jogZone < w.count →
        now (.windlassCommandHoistHome q 3 x) { w with mode := some .hoistHome, target := none }) ∧
      (w.count ≤ s.cfg.windlass.jogZone → w.count ≠ 0 ∨ w.jogs < 9 → now (.windlassCommandHoistHome q 3 x) { w with
        mode := some .hoistHome, target := none, state := .jogging, jogs := jogs, jogOn := true, phaseMs := 0,
        up := true, down := false, brakeFree := true })) ∧
    (w.state = .jogging →
      now (.windlassCommandHoist q 1 x) { w with
        mode := some .hold, target := none, state := .hoisting, jogOn := false, phaseMs := 0, up := true,
        brakeFree := true } ∧
      now (.windlassCommandHoistHome q 3 x) { w with mode := some .hoistHome, target := none }))

/-- (Model's choices: the first check of a code is whether it names the row's own action, so that a row with
another row's code, or with one that names no action, is OUT_OF_RANGE, logs 32 and 45.) WINDLASS_COMMAND is
refused by the first of its checks that fails, and then changes nothing, but that an opposing hold sets the
conflict latch with its notice, which names the first of several opposing holds and puts the direction of the
start first (the model's choice, logs 67 and 68); a run that is none is answered OK and changes nothing; a code
with no action and a target outside 1..9999 are OUT_OF_RANGE. -/
def Obligations.WindlassStartsAreChecked : Prop :=
  ∀ (q : Req) (s : State), q.len = 3 → s.Takes →
    (∀ (i : Instr) (r : Run), (∃ x, (i = .windlassCommandLower q 0 x ∧ r = .lower) ∨
        (i = .windlassCommandHoist q 1 x ∧ r = .hoist) ∨
        (i = .windlassCommandLowerTo q 2 x ∧ 1 ≤ x ∧ x ≤ 9999 ∧ r = .lowerTo (min x s.cfg.windlass.maxRod)) ∨
        (i = .windlassCommandHoistHome q 3 x ∧ r = .hoistHome)) →
      let refused (c : Status) (d : Nat) := exec i s = .next (withReply 0x15 q ⟨c, d, []⟩ s)
      (s.wl.state = .fault → refused .faulted 0) ∧
      (s.wl.state = .lockout → refused .lockout 0) ∧
      (s.wl.state = .braking → refused .busy 0) ∧
      (s.wl.state.running = true → s.wl.holder ≠ .host ∨ r.dir ≠ s.wl.state.dir → refused .busy 0) ∧
      (s.wl.state = .idle → s.wl.conflict = true → refused .conflict 0) ∧
      (∀ h, s.wl.state = .idle → s.wl.conflict = false → s.opposingHold r.dir = some h → exec i s = .next
        (formReply 0x15 q.tag (Ans.refused .conflict)
          (notice .wlConflict 0 [codeIn dirs r.dir, codeIn dirs h.kind.dir, value3 h.source.triple]
            ((s.taken 0x15 q).setWl { s.wl with conflict := true })))) ∧
      (s.wl.state = .idle → s.wl.conflict = false → s.opposingHold r.dir = none →
        (s.lacksInput r = true → refused .notReady 0) ∧
        (s.lacksInput r = false → s.runIsNone r = true → refused .ok 0) ∧
        (s.lacksInput r = false → s.runIsNone r = false →
          (∀ n, windlassPermit r.dir s = some (.notPermitted, n) → refused .notPermitted n) ∧
          (∀ c, windlassPermit r.dir s = none → reserveFor .windlass s.cfg.windlass.amount s = .error c →
            refused c 0)))) ∧
    (∀ a x, (a ≠ 0 → exec (.windlassCommandLower q a x) s = .next (withReply 0x15 q (Ans.refused .outOfRange) s)) ∧
      (a ≠ 1 → exec (.windlassCommandHoist q a x) s = .next (withReply 0x15 q (Ans.refused .outOfRange) s)) ∧
      (a ≠ 2 ∨ x = 0 ∨ 9999 < x →
        exec (.windlassCommandLowerTo q a x) s = .next (withReply 0x15 q (Ans.refused .outOfRange) s)) ∧
      (a ≠ 3 → exec (.windlassCommandHoistHome q a x) s = .next (withReply 0x15 q (Ans.refused .outOfRange) s)) ∧
      (a ≠ 4 → exec (.windlassCommandStop q a x) s = .next (withReply 0x15 q (Ans.refused .outOfRange) s)))

/-- What the host asks beside runs. STOP puts a running windlass in BRAKING toward IDLE, its contactors off and
WINDLASS released, and changes nothing at rest or in BRAKING. SET_COUNT at rest in IDLE sets the count RESTORED,
judges the anchored flag and writes the cell; CLEAR_FAULT leaves FAULT for IDLE. What does not apply is refused.
-/
def Obligations.TheHostStopsAndSetsTheWindlass : Prop :=
  ∀ (q : Req) (s : State), s.Takes →
    let wrote (t : State) (c : Nat) := (s.dev.cellWrite = none →
        t.dev.cellWrite = some ⟨writeSlot s.nv, ⟨c, writeSeq s.nv⟩, none⟩ ∧
          t.nv = s.nv.setSlot (writeSlot s.nv) none) ∧
      (∀ w, s.dev.cellWrite = some w → t.dev.cellWrite = some { w with pendingCount := some c } ∧ t.nv = s.nv)
    (∀ x, q.len = 3 →
      (s.wl.state.running = true → s.Calm → ∃ t, exec (.windlassCommandStop q 4 x) s = .next t ∧
        t.wl = { s.wl with state := .braking, holder := .none, mode := none, target := none,
                           brakingEnd := some .idle, phaseMs := 0, jogOn := false, up := false, down := false,
                           stall := none } ∧
        t.budget.res = { s.budget.res with windlass := none } ∧ t.stern = s.stern ∧ t.inp = s.inp ∧ t.cfg = s.cfg ∧
        t.link.replies = s.link.replies ++ [⟨0x15, q.tag, .ok, 0, []⟩]) ∧
      (s.wl.state.running = false → exec (.windlassCommandStop q 4 x) s = .next (withReply 0x15 q Ans.ok s))) ∧
    (∀ c, q.len = 2 →
      (c ≤ 9999 → c = 0 ∨ s.roleActive .anchorHome = false → s.wl.state = .idle → s.Calm → s.Unwatched →
        ∃ t, exec (.windlassSetCount q c) s = .next t ∧ t.wl = { s.wl with count := c, status := .restored } ∧
          t.vessel.anchored = decide (s.cfg.windlass.anchoredMin ≤ t.chainLength) ∧ wrote t c ∧ t.stern = s.stern ∧
          t.inp = s.inp ∧ t.cfg = s.cfg ∧ t.link.replies = s.link.replies ++ [⟨0x17, q.tag, .ok, 0, []⟩]) ∧
      (9999 < c → exec (.windlassSetCount q c) s = .next (withReply 0x17 q (Ans.refused .outOfRange) s)) ∧
      (c ≤ 9999 → c ≠ 0 → s.roleActive .anchorHome = true →
        exec (.windlassSetCount q c) s = .next (withReply 0x17 q (Ans.refused .conflict) s)) ∧
      (c ≤ 9999 → c = 0 ∨ s.roleActive .anchorHome = false → s.wl.state ≠ .idle →
        exec (.windlassSetCount q c) s = .next (withReply 0x17 q (Ans.refused .busy) s))) ∧
    (q.len = 0 →
      (s.wl.state = .fault → ∃ t, exec (.windlassClearFault q) s = .next t ∧
        t.wl = { s.wl with state := .idle, faultRec := none } ∧ wrote t s.wl.count ∧ t.stern = s.stern ∧
        t.cfg = s.cfg ∧ t.link.queue = (notice .wlFaultCleared 0 [s.wl.count] s).link.queue ∧
        t.link.replies = s.link.replies ++ [⟨0x18, q.tag, .ok, 0, []⟩]) ∧
      (s.wl.state ≠ .fault → exec (.windlassClearFault q) s = .next (withReply 0x18 q (Ans.refused .notFaulted) s)))

/-- The windlass's own clocks, with no permit term and no binding enabled: the ends of BRAKING, of the brake's
delay, of the two halves of a jog, of a disagreement, of a creep burst and of LOCKOUT, and the three stops by a
watch: the tenth jog at count 0 (HOME_MISSING), the stall, and the thermal integrator at T_MAX. As UP comes on
for a jog no stall time runs that did not, also where the current stands above STALL_CURRENT (the model's
choice, log 54). CREEP_END sends the count before the net pulses (the model's choice, log 89). A fault's record has
the last valid motor current (R118). The count cell: a write that ends makes its slot valid, and the count that
waited is then written to the other slot; the count written, which ListsStayBounded keeps within 0..9999, is the one
that the cell gives at the next start-up. A slot whose count lies above 9999 is not valid, whatever its check: with
no other valid slot the cell gives none, and a write goes to slot A with sequence number 0; else the other slot gives
the count, and a write goes to the one that is not valid. -/
def Obligations.WindlassClocksRunOut : Prop :=
  (∀ s : State, s.Calm → s.Unwatched →
     let w := s.wl
     let judged (t : State) := t.vessel.anchored = decide (s.cfg.windlass.anchoredMin ≤ t.chainLength) ∧
       t.stern = s.stern ∧ t.cfg = s.cfg
     let braked (t : State) (e : BrakingEnd) (r : Option WlFaultRec) := t.wl = { w with
         state := .braking, holder := .none, mode := none, target := none, brakingEnd := some e, phaseMs := 0,
         jogOn := false, up := false, down := false, stall := none, faultRec := r } ∧
       t.budget.res = { s.budget.res with windlass := none } ∧ t.stern = s.stern ∧ t.cfg = s.cfg
     (∀ e, w.state = .braking → w.brakingEnd = some e → 500 ≤ w.phaseMs → ∃ t, exec .brakingEnd s = .next t ∧
       t.wl = { w with state := (match e with | .idle => .idle | .lockout => .lockout | .fault => .fault),
                       brakingEnd := none, phaseMs := 0, brakeFree := false } ∧ judged t) ∧
     (w.brakeFree = true → w.state = .braking ∨ (w.state = .jogging ∧ w.jogOn = false) → 100 ≤ w.phaseMs →
       exec .brakeFreeDelayEnd s = .next (s.setWl { w with brakeFree := false })) ∧
     (w.state = .jogging → w.jogOn = true → 800 ≤ w.phaseMs → exec .jogOnEnd s = .next
       (s.setWl { w with jogOn := false, phaseMs := 0, up := false, stall := none })) ∧
     (w.state = .jogging → w.jogOn = false → 1200 ≤ w.phaseMs →
       (w.count ≠ 0 ∨ w.jogs < 9 → exec .jogOffEnd s = .next (s.setWl { w with
         jogOn := true, phaseMs := 0, up := true, down := false, brakeFree := true,
         jogs := if w.count = 0 then w.jogs + 1 else w.jogs })) ∧
       (w.count = 0 → 9 ≤ w.jogs → ∃ t, exec .jogOffEnd s = .next t ∧
         braked t .fault (some ⟨.homeMissing, .jogging, 0, w.lastCurrent, 0⟩))) ∧
     (w.state.powered = true → 2000 ≤ w.quietMs → exec .disagreementQuiet s = .next
       (s.setWl { w with disagree := 0 })) ∧
     (∀ b, w.creep = some b → 2000 ≤ b.2 → ∃ t, exec .creepEnd s = .next t ∧ t.wl = { w with creep := none } ∧
       t.link.queue = (notice .creepEnd 0 [w.count, b.1] s).link.queue ∧ t.dev.cellWrite.isSome ∧
       t.stern = s.stern ∧ t.cfg = s.cfg) ∧
     (∀ st, w.stall = some st → w.state.powered = true → st.2 ≤ st.1 → ∃ t, exec .stall s = .next t ∧
       braked t .fault (some ⟨.stall, w.state, w.count, w.lastCurrent, 0⟩)) ∧
     (w.state.powered = true → s.cfg.limits.tMax ≤ w.heat → ∃ t, exec .thermalLockout s = .next t ∧
       braked t .lockout w.faultRec) ∧
     (w.state = .lockout → w.heat ≤ s.cfg.limits.tMax / 2 → ∃ t, exec .lockoutEnd s = .next t ∧
       t.wl = { w with state := .idle } ∧ judged t)) ∧
  (∀ s : State,
     (∀ w, s.dev.cellWrite = some w → w.pendingCount = none → exec .countCellWriteDone s = .next
       { s with nv := s.nv.setSlot w.toA (some w.slot), dev := { s.dev with cellWrite := none } }) ∧
     (∀ w c, s.dev.cellWrite = some w → w.pendingCount = some c →
       let n := s.nv.setSlot w.toA (some w.slot)
       exec .countCellWriteDone s = .next
         { s with nv := n.setSlot (writeSlot n) none
                  dev := { s.dev with cellWrite := some ⟨writeSlot n, ⟨c, writeSeq n⟩, none⟩ } }) ∧
     (s.dev.cellWrite = none → s.wl.count ≤ 9999 → ∃ t, exec .countCellWriteDone (writeCell s) = .next t ∧
       cellCount t.nv = some s.wl.count ∧ t.dev.cellWrite = none ∧ t.wl = s.wl)) ∧
  (∀ (n : Nv) (x y : CellSlot), 9999 < x.count →
     (n.cellA = some x ∨ n.cellA = none → n.cellB = some x ∨ n.cellB = none →
       cellCount n = none ∧ writeSlot n = true ∧ writeSeq n = 0) ∧
     (y.count ≤ 9999 →
       (n.cellA = some x → n.cellB = some y →
         cellCount n = some y.count ∧ writeSlot n = true ∧ writeSeq n = (y.seq + 1) % 65536) ∧
       (n.cellA = some y → n.cellB = some x →
         cellCount n = some y.count ∧ writeSlot n = false ∧ writeSeq n = (y.seq + 1) % 65536)))

/-! ### The panel bus -/

/-- SLOT_START outside STARTING, with the last slot judged and its 5 ms over: a fast slot after a normal one
while the fast-poll list has a panel at its pointer, else the walk's next visit, else the discovery slot that
ends the rotation: the rotation count advances after that slot, as the next one starts. Slots follow each other
at 5 ms (the model's choice, log 20), and a slot that may not begin changes nothing (log 3). -/
def Obligations.SlotsCallThePanels : Prop :=
  ∀ s : State,
    let r := if s.panel.discovering
      then { s with panel := { s.panel with rotation := (s.panel.rotation + 1) % 8, walked := 0, discovering := false } }
      else s
    let called (b : PanelBus) (c : Call) := exec .slotStart s = .next
      { s with panel := { b with slotMs := some 0, call := some c } }
    (s.starting = true ∨ s.panel.call.isSome ∨ (∃ ms, s.panel.slotMs = some ms ∧ ms < 5) →
      exec .slotStart s = .next s) ∧
    (s.starting = false → s.panel.call = none → (∀ ms, s.panel.slotMs = some ms → 5 ≤ ms) →
      (∀ p, s.panel.lastFast = false → s.panel.fast[s.panel.fastNext]? = some p →
        called { r.panel with lastFast := true, fastNext := (s.panel.fastNext + 1) % s.panel.fast.length }
          ⟨p, .poll, panelFrame (addressOf p) 0x03 (pollPayload p s), .awaited⟩) ∧
      (s.panel.fast = [] ∨ s.panel.lastFast = true →
        (∀ p, r.nextVisit = some p → called { r.panel with lastFast := false, walked := p.val + 1 }
          ⟨p, callKind (s.entry p), callFrame (callKind (s.entry p)) p s, .awaited⟩) ∧
        (∀ p, r.nextVisit = none → s.nextAbsent = some p →
          called { r.panel with lastFast := false, discovery := p + 1, discovering := true }
            ⟨p, .discover, panelFrame (addressOf p) 0x01 [], .awaited⟩)))

/-- The answers that make and keep a panel's entry, as frames on the bus. Within its slot an answer is only kept
with its call: one that begins while the part still sends is dropped, a late one, judged to the ms (log 26), and
one that is not good make the slot a missed one, and the first that comes is the slot's answer; the entry moves as
the slot ends, by the command of the answer kept (the model's choice of how R155 is met, log 60). A capability
record to DISCOVER joins with the highest common version, or leaves the panel INCOMPATIBLE; the short answer joins
as version 1; the acknowledged version ends ASSIGN. A good POLL answer makes a JOINING entry UP at the third, a
FAILING one UP, a DOWN one JOINING. A miss leaves an ABSENT entry to DISCOVER, makes an UP entry FAILING and counts
on below 4; the fourth makes a JOINING entry ABSENT (LOST) and a FAILING one DOWN, and a windlass run that the
entry's key holds brakes. A discovery answer to a POLL or an ASSIGN is a rejoin: its holdings end, and the entry is
as after a discovery, JOINING or INCOMPATIBLE, with REJOINED and the old and the new version, an absent one sent as
255 (the model's choice, log 16); the notice INCOMPATIBLE comes before REJOINED (the model's choice, log 90).
PANEL_FORGET makes an entry ABSENT with its reset values, with FORGOTTEN unless it was ABSENT; an address outside
1..32 is refused; a windlass hold of the panel's key ends with it, and the run it holds brakes. -/
def Obligations.PanelEntriesFollowTheAnswers : Prop :=
  (∀ (s : State) (p : Fin 32) (k : CallKind) (kind : AnswerKind) (frame f : List Byte) (ms : Nat),
     let call (a : SlotAnswer) : Call := ⟨p, k, frame, a⟩
     let kept (a : SlotAnswer) := Host.Outcome.next (φ := Fault) (ρ := Refusal)
       { s with panel := { s.panel with call := some (call a) } }
     let bytes := 80 * (frame.length + f.length)
     s.panel.slotMs = some ms → ms < 5 →
     (s.panel.call = some (call .awaited) → exec .missedAnswer s = kept .missed ∧
       (frameKind f = kind.code →
         (1000 * ms + 999 < bytes → exec (kind.row f) s = .next s) ∧
         (bytes ≤ 1000 * ms + 999 → bytes + 2000 < 1000 * ms ∨ readAnswer p f = none →
           exec (kind.row f) s = kept .missed) ∧
         (bytes ≤ 1000 * ms + 999 → 1000 * ms ≤ bytes + 2000 → (readAnswer p f).isSome →
           exec (kind.row f) s = kept (.came kind f)))) ∧
     (∀ a, a ≠ .awaited → s.panel.call = some (call a) → exec (kind.row f) s = .next s)) ∧
  (∀ (s : State) (p : Fin 32) (frame : List Byte), (∀ ms, s.panel.slotMs = some ms → 5 ≤ ms) →
     let e := s.entry p
     let bits := s.cfg.panels.versionSet
     let closed := { s with panel := { s.panel with call := none } }
     let missed (k : CallKind) :=
       s.panel.call = some ⟨p, k, frame, .awaited⟩ ∨ s.panel.call = some ⟨p, k, frame, .missed⟩
     let answered (k : CallKind) (kind : AnswerKind) (code : Byte) (payload : List Byte) (t : State) :=
       let f := panelFrame (addressOf p) code payload
       s.panel.call = some ⟨p, k, frame, .came kind f⟩ → exec (kind.row f) s = .next t
     let record (v k h : Nat) (ind : IndKind) := [byteOf v, byteOf k, byteOf (codeIn indKinds ind), byteOf h]
     let brakes (t : State) (key : Nat) := t.wl.state = .braking ∧ t.wl.brakingEnd = some .idle ∧ t.wl.up = false ∧
       t.wl.down = false ∧ t.wl.holder = .none ∧ (∀ h ∈ t.wl.holds, h.source ≠ .panel (addressOf p) key) ∧
       t.panel.call = none ∧ t.stern = s.stern ∧ t.cfg = s.cfg
     (∀ (v k h : Nat) (ind : IndKind), 1 ≤ v → v ≤ 7 → 1 ≤ k → k ≤ 16 → h ≤ 1 →
       let c : Caps := ⟨v, k, ind, h == 1⟩
       let joined (w : Nat) := closed.setEntry p { e with
         link := .joining, caps := some c, legacy := false, version := some w, assignPending := true, good := 0, miss := 0 }
       let barred := notice .incompatible (addressOf p) [v, bits] (closed.setEntry p { e with
         link := .incompatible, caps := some c, legacy := false, version := none, assignPending := false,
         good := 0, miss := 0 })
       (∀ w, e.link = .absent → highestVersion (v &&& bits) = some w → answered .discover .capability 0x10 (record v k h ind)
         (notice .joined (addressOf p) [w, 0] (joined w))) ∧
       (e.link = .absent → highestVersion (v &&& bits) = none →
         answered .discover .capability 0x10 (record v k h ind) barred) ∧
       (∀ ask w, ask ≠ .discover → e.link ≠ .absent → e.holdings = [] → highestVersion (v &&& bits) = some w →
         answered ask .capability 0x10 (record v k h ind)
           (notice .rejoined (addressOf p) [e.version.getD 255, w] (joined w))) ∧
       (∀ ask, ask ≠ .discover → e.link ≠ .absent → e.holdings = [] → highestVersion (v &&& bits) = none →
         answered ask .capability 0x10 (record v k h ind)
           (notice .rejoined (addressOf p) [e.version.getD 255, 255] barred)) ∧
       (∀ key n w, e.link ≠ .absent → e.holdings = [⟨key, .windlass, n⟩] → s.wl.state.running = true →
         s.wl.holder = .panel (addressOf p) key → s.Calm → highestVersion (v &&& bits) = some w →
         s.panel.call = some ⟨p, .poll, frame, .came .capability (panelFrame (addressOf p) 0x10 (record v k h ind))⟩ →
         ∃ t, exec (.capability (panelFrame (addressOf p) 0x10 (record v k h ind))) s = .next t ∧ brakes t key ∧
           t.entry p = { (joined w).entry p with holdings := [] } ∧
           Gives .rejoined (addressOf p) [e.version.getD 255, w] s t)) ∧
     (let short := closed.setEntry p { e with
        link := .joining, caps := some ⟨1, 8, .mono, false⟩, legacy := true, version := some 1, assignPending := false,
        good := 0, miss := 0 }
      bits % 2 = 1 →
       (e.link = .absent → answered .discover .short 0x11 [] (notice .joined (addressOf p) [1, 0] short)) ∧
       (∀ ask, ask ≠ .discover → e.link ≠ .absent → e.holdings = [] →
         answered ask .short 0x11 [] (notice .rejoined (addressOf p) [e.version.getD 255, 1] short))) ∧
     (∀ v, e.link = .joining → v < 256 →
       (e.version = some v →
         answered .assign .ack 0x12 [byteOf v] (closed.setEntry p { e with assignPending := false, miss := 0 })) ∧
       (e.version ≠ some v → e.miss < 3 →
         answered .assign .ack 0x12 [byteOf v] (closed.setEntry p { e with good := 0, miss := e.miss + 1 }))) ∧
     (let up := notice .linkUp (addressOf p) [e.version.getD 255]
        (closed.setEntry p { e with link := .up, good := 0, miss := 0 })
      let polled := answered .poll .keys 0x13 []
      (e.link = .joining → e.good < 2 → polled (closed.setEntry p { e with good := e.good + 1, miss := 0 })) ∧
      (e.link = .joining → 2 ≤ e.good → polled up) ∧ (e.link = .failing → polled up) ∧
      (e.link = .up → polled (closed.setEntry p { e with good := 0, miss := 0 })) ∧
      (e.link = .down → polled (notice .joined (addressOf p) [e.version.getD 255, 1]
        (closed.setEntry p { e with link := .joining, good := 0, miss := 0, assignPending := false })))) ∧
     (missed .discover → exec .missedAnswer s = .next closed) ∧
     (missed .poll ∨ missed .assign →
       (e.link = .joining → e.miss < 3 → exec .missedAnswer s = .next
         (closed.setEntry p { e with good := 0, miss := e.miss + 1 })) ∧
       (e.link = .joining → 3 ≤ e.miss → e.holdings = [] → exec .missedAnswer s = .next
         (notice .lost (addressOf p) [] (closed.setEntry p {}))) ∧
       (e.link = .up → exec .missedAnswer s = .next
         (notice .linkFailing (addressOf p) [] (closed.setEntry p { e with link := .failing, miss := 1 }))) ∧
       (e.link = .failing → e.miss < 3 → exec .missedAnswer s = .next
         (closed.setEntry p { e with miss := e.miss + 1 })) ∧
       (e.link = .failing → 3 ≤ e.miss → e.holdings = [] → exec .missedAnswer s = .next
         (notice .linkDown (addressOf p) [0] (closed.setEntry p { e with link := .down, miss := 4 }))) ∧
       (∀ key n, e.link = .failing → 3 ≤ e.miss → e.holdings = [⟨key, .windlass, n⟩] → s.wl.state.running = true →
         s.wl.holder = .panel (addressOf p) key → s.Calm →
         ∃ t, exec .missedAnswer s = .next t ∧ brakes t key ∧
           t.entry p = { e with link := .down, miss := 4, holdings := [] } ∧ Gives .linkDown (addressOf p) [1] s t) ∧
       (e.link = .down → exec .missedAnswer s = .next closed))) ∧
  (∀ (q : Req) (s : State), q.len = 1 → s.Takes →
     (∀ a, a = 0 ∨ 32 < a → exec (.panelForget q a) s = .next (withReply 0x1A q (Ans.refused .outOfRange) s)) ∧
     (∀ p : Fin 32, (s.entry p).holdings = [] →
       let u := (s.taken 0x1A q).setEntry p {}
       exec (.panelForget q (addressOf p)) s = .next (formReply 0x1A q.tag Ans.ok
         (if (s.entry p).link = .absent then u
         else notice .forgotten (addressOf p) [codeIn links (s.entry p).link] u))) ∧
     (∀ (p : Fin 32) (key n : Nat), (s.entry p).holdings = [⟨key, .windlass, n⟩] → s.wl.state.running = true →
       s.wl.holder = .panel (addressOf p) key → s.Calm →
       ∃ t, exec (.panelForget q (addressOf p)) s = .next t ∧ t.entry p = {} ∧ t.wl.state = .braking ∧
         t.wl.brakingEnd = some .idle ∧ t.wl.up = false ∧ t.wl.down = false ∧
         (∀ h ∈ t.wl.holds, h.source ≠ .panel (addressOf p) key) ∧
         t.link.replies = s.link.replies ++ [⟨0x1A, q.tag, .ok, 0, []⟩]))

/-- A good POLL answer with one key event, judged as its slot ends (log 60), no binding enabled. Of an UP panel,
and of a FAILING one after it has moved to UP: PRESS and RELEASE of a key that holds nothing are handed on, and
PRESS starts the key's flash of 150 ms; HOLD and HELD start the deadman of the key's holdings again; a key above
the panel's, and a hold report of a version 1 panel, are discarded. RELEASE of a key that holds ends the holding
and stops what the key holds, a run of the windlass or an axis; so does PRESS of such a key, which is then handed
on as a new press. The events of a JOINING and of a DOWN panel are discarded. A deadman at 0 ends its holding and
stops what the key holds: a run of the windlass, an axis, or the step axis of a sequence, which is ABORTED. A
flash at 0 leaves the table. A deadman and a flash that have not run out change nothing (the model's choice,
log 3). -/
def Obligations.KeysAreHandedOn : Prop :=
  ∀ (s : State) (p : Fin 32) (key : Fin 16), s.Calm →
    let e := s.entry p
    let n := keyNumber (addressOf p) key
    let closed := { s with panel := { s.panel with call := none } }
    let good := closed.setEntry p { e with good := 0, miss := 0 }
    let fed (h : Holding) : Holding := if h.key = key then { h with deadman := s.cfg.limits.deadman } else h
    let event (k : KeyKind) := panelFrame (addressOf p) 0x13 [byteOf (key + 16 * codeIn keyKinds k)]
    let asked (k : KeyKind) := (∀ ms, s.panel.slotMs = some ms → 5 ≤ ms) ∧
      ∃ frame, s.panel.call = some ⟨p, .poll, frame, .came .keys (event k)⟩
    let heard (k : KeyKind) (c : Caps) (t : State) :=
      asked k → e.link = .up → e.caps = some c → exec (.keys (event k)) s = .next t
    let flashed (t : State) := { t with bind := { s.bind with flashes := putKey n 150 s.bind.flashes } }
    let brakes (t : State) := (t.entry p).holdings = [] ∧ t.wl.state = .braking ∧ t.wl.brakingEnd = some .idle ∧
      t.wl.up = false ∧ t.wl.down = false ∧ t.wl.holder = .none ∧
      (∀ h ∈ t.wl.holds, h.source ≠ .panel (addressOf p) key) ∧ t.stern = s.stern
    let rests (a : AxisId) (t : State) := (t.entry p).holdings = [] ∧
      (t.axis a).state = (if s.roleActive (outRole a) then .extended else .halted) ∧ (t.axis a).holder = .none
    let drives (a : AxisId) := s.stern.seq.running = false ∧ (s.axis a).state.driving = true ∧
      (s.axis a).holder = .panel (addressOf p) key
    let stays (a : AxisId) (t : State) := t.stern.pack.pump = .runOn ∧ t.stern.pack.valve = none ∧
      t.axis (otherAxis a) = s.axis (otherAxis a) ∧ t.wl = s.wl
    (∀ c : Caps, key.val < c.keyCount → (∀ h ∈ e.holdings, h.key ≠ key) →
      heard .press c (flashed (notice .keyPress (addressOf p) [key] good)) ∧
      heard .release c (notice .keyRelease (addressOf p) [key] good) ∧
      (asked .press → e.link = .failing → e.caps = some c → exec (.keys (event .press)) s = .next
        (flashed (notice .keyPress (addressOf p) [key] (notice .linkUp (addressOf p) [e.version.getD 255]
          (closed.setEntry p { e with link := .up, good := 0, miss := 0 })))))) ∧
    (∀ c : Caps, key.val < c.keyCount → e.version ≠ some 1 →
      let u := good.setEntry p { e with good := 0, miss := 0, holdings := e.holdings.map fed }
      heard .hold c (notice .keyHold (addressOf p) [key] u) ∧
      heard .held c (notice .keyHeld (addressOf p) [key] u)) ∧
    (∀ (c : Caps) (k : KeyKind), c.keyCount ≤ key.val ∨ ((k = .hold ∨ k = .held) ∧ e.version = some 1) →
      heard k c (notice .eventDiscarded (addressOf p) [key, codeIn keyKinds k] good)) ∧
    (∀ (c : Caps) (k : KeyKind) (m : Nat), asked k → e.link = .up → e.caps = some c → key.val < c.keyCount →
      k = .press ∨ k = .release →
      let after (t : State) := Gives (if k = .press then .keyPress else .keyRelease) (addressOf p) [key] s t ∧
        t.bind.flashes = (if k = .press then putKey n 150 s.bind.flashes else s.bind.flashes) ∧
        (t.entry p).link = .up ∧ t.panel.call = none
      (e.holdings = [⟨key, .windlass, m⟩] → s.wl.state.running = true → s.wl.holder = .panel (addressOf p) key →
        ∃ t, exec (.keys (event k)) s = .next t ∧ brakes t ∧ after t) ∧
      (∀ a, e.holdings = [⟨key, axisSubject a, m⟩] → drives a →
        ∃ t, exec (.keys (event k)) s = .next t ∧ rests a t ∧ stays a t ∧ after t)) ∧
    (∀ k, asked k → e.link = .joining → e.good < 2 → exec (.keys (event k)) s = .next
      (closed.setEntry p { e with good := e.good + 1, miss := 0 })) ∧
    (∀ k, asked k → e.link = .down → exec (.keys (event k)) s = .next
      (notice .joined (addressOf p) [e.version.getD 255, 1]
        (closed.setEntry p { e with link := .joining, good := 0, miss := 0, assignPending := false }))) ∧
    ((∀ h ∈ e.holdings, h.key ≠ key ∨ h.deadman ≠ 0) → exec (.deadman p key) s = .next s) ∧
    (e.holdings = [⟨key, .windlass, 0⟩] → s.wl.state.running = true → s.wl.holder = .panel (addressOf p) key →
      ∃ t, exec (.deadman p key) s = .next t ∧ brakes t) ∧
    (∀ a, e.holdings = [⟨key, axisSubject a, 0⟩] → drives a →
      ∃ t, exec (.deadman p key) s = .next t ∧ rests a t ∧ stays a t) ∧
    (∀ a, e.holdings = [⟨key, .sequence, 0⟩] → s.stern.seq.running = true →
      s.stern.seq.holder = .panel (addressOf p) key → s.stern.seq.axis = some a → (s.axis a).state.driving = true →
      (s.axis a).holder = .sequence →
      ∃ t, exec (.deadman p key) s = .next t ∧ rests a t ∧
        t.stern.seq.state = .aborted ∧ t.stern.seq.ended = some (s.stern.seq.step, .stopped) ∧ t.wl = s.wl) ∧
    (findKey n s.bind.flashes = some 0 → exec (.flashEnd p key) s = .next
      { s with bind := { s.bind with flashes := dropKey n s.bind.flashes } }) ∧
    (findKey n s.bind.flashes ≠ some 0 → exec (.flashEnd p key) s = .next s)

/-! ### Bindings and indicators -/

/-- BINDING_WRITE within its ranges puts the record in the table, marks BINDINGS changed where it differs from the
one held, and sets its match count to 0; one out of range or during a commit is refused. INDICATOR_SET places an
override on one key or on all 16, removes it with AUTO, changes none with KEEP, and answers the shown modes; what
is out of range is refused. AUTO and KEEP carry no colour, 0xFF, and take one that has a name (the model's choice,
log 57). Of a binding, a value filter with a high byte that is not 0 and a busy mode without a name are out of
range, and parameters that its action does not use are kept unjudged (the model's choices, logs 77 and 78). -/
def Obligations.TheTablesAreWritten : Prop :=
  ∀ (q : Req) (s : State), s.Takes →
    (∀ (i : Fin 64) (part : BindingPart) (b : Binding), q.len = 15 → part.index = i → bindingOf part = some b →
      b.ok = true → part.flags < 4 → part.zero = 0 →
      (s.committing = true → exec (.bindingWrite q part) s = .next (withReply 0x1C q (Ans.refused .busy) s)) ∧
      (s.committing = false → ∃ t, exec (.bindingWrite q part) s = .next t ∧
        t.cfg = { s.cfg with bindings := s.cfg.bindings.set i b } ∧
        t.bind = { s.bind with counts := s.bind.counts.set i 0 } ∧
        t.dev = { s.dev with changed := if s.cfg.bindings[i] = b then s.dev.changed else s.dev.changed ||| 8#9 } ∧
        t.link.replies = s.link.replies ++ [⟨0x1C, q.tag, .ok, 0, []⟩] ∧ t.stern = s.stern ∧ t.wl = s.wl ∧
        t.chan = s.chan ∧ t.scene = s.scene ∧ t.nv = s.nv)) ∧
    (∀ part : BindingPart, q.len = 15 →
      64 ≤ part.index ∨ bindingOf part = none ∨ (bindingOf part).map Binding.ok = some false ∨ 4 ≤ part.flags ∨
        part.zero ≠ 0 →
      exec (.bindingWrite q part) s = .next (withReply 0x1C q (Ans.refused .outOfRange) s)) ∧
    (∀ (p : Fin 32) (key mode colour : Nat) (c : Colour), q.len = 4 →
      colour = codeIn colours c ∨ (5 ≤ mode ∧ colour = 255) →
      let set (i : Instr) (l : List (Nat × (IndMode × Colour))) :=
        let u := { s.taken 0x1B q with bind := { s.bind with overrides := l } }
        exec i s = .next (formReply 0x1B q.tag ⟨.ok, 0, (List.range 16).map (u.lampByte (addressOf p))⟩ u)
      let n := keyNumber (addressOf p) key
      let i := Instr.indicatorSet q (addressOf p) key mode colour
      (key < 16 → mode < 4 → set i (putKey n (indModes.getD mode .off, c) s.bind.overrides)) ∧
      (key < 16 → mode = 5 → set i (dropKey n s.bind.overrides)) ∧
      (key ≤ 16 → mode = 6 → set i s.bind.overrides) ∧
      (key = 16 → mode < 4 → set i ((List.range 16).foldl
        (fun l k => putKey (keyNumber (addressOf p) k) (indModes.getD mode .off, c) l) s.bind.overrides)) ∧
      (key = 16 → mode = 5 → set i ((List.range 16).foldl
        (fun l k => dropKey (keyNumber (addressOf p) k) l) s.bind.overrides))) ∧
    (∀ a key mode colour, q.len = 4 →
      a = 0 ∨ 32 < a ∨ 16 < key ∨ mode = 4 ∨ 6 < mode ∨ (5 ≤ colour ∧ (mode < 5 ∨ colour ≠ 255)) →
      exec (.indicatorSet q a key mode colour) s = .next (withReply 0x1B q (Ans.refused .outOfRange) s))

/-- An event offered between commands: in STARTING it joins the start-up list; one that no binding matches changes
nothing; the lowest binding that matches has its count raised and acts, and the events that its action raises are
matched after it. NOTIFY gives NOTIFIED. The channel actions set the channel for BINDING at their target, IN_USE on
the beacon channel. SCENE_START starts, queues or is refused BUSY with IGNORE, and SCENE_STOP stops. AXIS_STOP and
WINDLASS_STOP stop. AXIS_HOLD and AXIS_GO, WINDLASS_HOLD and WINDLASS_AUTO, and both forms of SEQUENCE_START begin
what they name for the key's panel or for BINDING_AUTO; a hold that fails the hold check, an automatic action while
AUTO_FROM_PANELS is clear, and a start that the owning block refuses are reported with code, detail and event; a
hold that meets an axis under another key is ignored, and one of a sequence that meets a sequence in a step is
refused BUSY, also where another panel holds it (the model's choice, log 79). An event that an action raises joins
the event list, one deeper; it is dropped and counted with 16 in the list, and one offered in STARTING with 32 in
the start-up list; EVENTS_DROPPED is given as the list is found empty. An event of depth 4 gives CHAIN_LIMIT with
the binding that raised it and the plain event code (the model's choice, log 80): a binding that answers its
player's end with the start of an empty slot acts four times, each PLAYER_DONE with the repeats of the last run
(the model's choice, log 65). -/
def Obligations.TheLowestMatchingBindingActs : Prop :=
  (∀ (e : Event) (s : State), s.bind.acting = none → s.bind.events = [] →
    (s.starting = true → s.bind.startUp.length < 32 → offerNow e s =
      { s with bind := { s.bind with startUp := s.bind.startUp ++ [e] } }) ∧
    (s.starting = true → 32 ≤ s.bind.startUp.length → offerNow e s =
      { s with bind := { s.bind with droppedStartUp := min 65535 (s.bind.droppedStartUp + 1) } }) ∧
    (s.starting = false → s.matching e = none → offerNow e s = s) ∧
    (∀ i : Fin 64, s.starting = false → s.matching e = some i →
      let b := s.cfg.bindings[i]
      let u := { s with bind := { s.bind with
        counts := s.bind.counts.set i (min 65535 (s.bind.counts[i] + 1)) } }
      let refused (c : Status) (d : Nat) :=
        offerNow e s = notice .refused i ([(codeIn statuses c : Int), d] ++ eventValues e) u
      let t := offerNow e s
      let silent (code : EvCode) (sub : Nat) (v : Option Nat) := s.matching (.internal code sub v) = none
      let auto := s.cfg.panels.autoFromPanels = true
      let held (ad k : Nat) := ∃ kind p, e = .key ad k kind ∧ panelOf ad = some p ∧ holdCheck p s = none
      let holds (ad k : Nat) (sub : HoldSubject) := ∀ p, panelOf ad = some p →
        (⟨k, sub, s.cfg.limits.deadman⟩ : Holding) ∈ (t.entry p).holdings
      let fits (r : Option Nat) (amount : Nat) := r = none ∧ s.budget.supply = .normal ∧
        s.budget.last.c0 + s.budget.res.total + amount + s.cfg.limits.margin ≤ s.cfg.supply.limit s.vessel.active
      b.enabled = true ∧ b.matchesEvent e = true ∧
      (∀ j : Fin 64, j < i → s.cfg.bindings[j].matchesEvent e = false) ∧
      (b.action = .notify → offerNow e s = notice .notified i ((b.p1 : Int) :: eventValues e) u) ∧
      (b.action = .axisGo ∨ b.action = .windlassAuto ∨ (b.action = .sequenceStart ∧ b.p2 ≠ 1) →
        s.cfg.panels.autoFromPanels = false → refused .notPermitted 255) ∧
      (∀ ad k kind p c, b.action = .axisHold ∨ b.action = .windlassHold ∨ (b.action = .sequenceStart ∧ b.p2 = 1) →
        e = .key ad k kind → panelOf ad = some p → holdCheck p s = some c → refused c 0) ∧
      (∀ k : Fin 24, b.p1 = k → b.action = .channelSet ∨ b.action = .channelToggle ∨ b.action = .channelStep →
        let goal := match b.action with
          | .channelToggle => if s.chan[k].level = 0 then b.p2.toNat else 0
          | .channelStep => (max 0 (min 1000 ((s.chan[k].level : Int) + b.p2))).toNat
          | _ => b.p2.toNat
        (s.chan[k].owner = .beacon → refused .inUse 0) ∧
        (s.chan[k].owner = .none ∨ s.chan[k].owner = .hostDirect ∨ s.chan[k].owner = .binding →
          (s.chCfg k).type = .dimmed → 0 < b.p3 → s.scene.idleWork = [] → offerNow e s =
            u.setChan k { s.chan[k] with
              owner := .binding,
              fade := some { start := s.chan[k].level, target := min goal 1000, elapsed := 0,
                             time := min b.p3 60000, since := 0 } })) ∧
      (∀ p : Fin 4, b.p1 = p → s.Between → s.bind.dropped = 0 →
        let x := s.player p
        let slot := b.p2.toNat
        let src := if b.event then TrigSource.eventBinding i else TrigSource.keyBinding i
        (b.action = .sceneStart →
          (x.state ≠ .idle → b.busy = .ignore → refused .busy 0) ∧
          (x.state ≠ .idle → b.busy = .queue → t = u.setPlayer p { x with pendingTrig := some (slot, src) }) ∧
          (∀ (r : SceneRec) (j : Fin 24) (l : Nat), x.state = .idle → s.sceneAt slot = some r → x.active = [] →
            x.waiting = [] → r.chans = [j.val] → r.rows.getD 0 [] = [l] → 0 < r.fade → (s.chCfg j).type = .dimmed →
            s.chan[j].owner = .none ∨ s.chan[j].owner = .hostDirect ∨ s.chan[j].owner = .binding →
            t = notice .playerStarted p [slot, value2 src.pair, 1] ((u.setPlayer p { x with
              state := .fading, scene := some slot, source := src, step := 0, repeats := 0, endFade := false,
              active := [j.val], waiting := [j.val] }).setChan j { s.chan[j] with
                owner := .player p
                fade := some { start := s.chan[j].level, target := min l 1000, elapsed := 0,
                               time := min r.fade 60000, since := 0 } }))) ∧
        (b.action = .sceneStop → x.state = .idle → t = u) ∧
        (b.action = .sceneStop → b.p2 = 0 → x.state = .fading ∨ x.state = .stopping →
          t = u.setPlayer p { x with state := .stopping, pendingTrig := none }) ∧
        (b.action = .sceneStop → b.p2 = 1 → x.state ≠ .idle →
          silent .playerDone p (some (codeIn playerOutcomes .aborted)) →
          t.player p = { x with state := .idle, outcome := .aborted, scene := none, endFade := false, active := [],
                                waiting := [], dwell := none, pendingTrig := none } ∧
          (∀ j : Fin 24, t.chan[j] = if j.val ∈ x.active
            then { s.chan[j] with owner := .none, fade := none } else s.chan[j]) ∧
          t.bind = u.bind ∧ t.stern = s.stern ∧ t.wl = s.wl ∧ t.cfg = s.cfg ∧
          t.link.queue = (notice .playerDone p [x.scene.getD 255, codeIn playerOutcomes .aborted, x.repeats,
            value2 x.source.pair] s).link.queue)) ∧
      (∀ a, b.action = .axisStop → b.p1 = axisIdx a → s.stern.seq.running = false → s.stern.seqWork = [] →
        ((s.axis a).state.moving = false → (∀ ad k, (s.axis a).holder ≠ .panel ad k) →
          t = u.modAxis a fun x => { x with holder := .none }) ∧
        ((s.axis a).state.driving = true → s.bind.dropped = 0 → silent .axisHalted (axisIdx a) none →
          silent .axisExtended (axisIdx a) none →
          (t.axis a).state = (if s.roleActive (outRole a) then .extended else .halted) ∧ (t.axis a).holder = .none ∧
          t.stern.pack.pump = .runOn ∧ t.stern.pack.runOn = 200 ∧ t.stern.pack.valve = none ∧
          t.axis (otherAxis a) = s.axis (otherAxis a) ∧ t.bind = u.bind ∧ t.wl = s.wl ∧ t.cfg = s.cfg)) ∧
      (∀ a h, b.p1 = axisIdx a → (b.action = .axisGo ∧ auto ∧ h = AxHolder.bindingAuto) ∨
          (∃ ad k, b.action = .axisHold ∧ held ad k ∧ h = .panel ad k) → s.stern.seqWork = [] →
        let tgt := settleTarget a b.p2.toNat s.cfg.limits
        let x := s.axis a
        (x.state = .fault → refused .faulted 0) ∧
        (∀ ad k, x.state.moving = true → h = .panel ad k → heldElsewhere x.holder h = true →
          t = notice .holdIgnored ad [k, axisIdx a] u) ∧
        (x.state.moving = true → heldElsewhere x.holder h = false → refused .busy 0) ∧
        (x.state ≠ .fault → x.state.moving = false → s.stern.seq.running = false → x.cooldown = none →
          s.lacksRole a tgt = false →
          (s.moveFor a tgt = none → t = u) ∧
          (∀ f, s.moveFor a tgt ≠ none → failingInterlock a tgt s = some f → refused .interlock f.code) ∧
          (x.state = .stowed → tgt ≠ 0 → failingInterlock a tgt s = none → s.Unwatched → s.stern.pack.pump = .off →
            fits s.budget.res.stern (s.axCfg a).amount → s.bind.dropped = 0 → silent .axisStart (axisIdx a) none →
            (t.axis a).state = .unlatching ∧ (t.axis a).target = tgt ∧ (t.axis a).holder = h ∧
            (t.axis a).latchHold = true ∧ t.stern.pack = s.stern.pack ∧
            t.budget.res.stern = some (s.axCfg a).amount ∧ t.axis (otherAxis a) = s.axis (otherAxis a) ∧
            t.bind = u.bind ∧ t.wl = s.wl ∧ t.cfg = s.cfg ∧
            ∀ ad k, h = .panel ad k → holds ad k (axisSubject a)))) ∧
      (∀ h, b.action = .sequenceStart → (b.p2 ≠ 1 ∧ auto ∧ h = SeqHolder.bindingAuto) ∨
          (∃ ad k, b.p2 = 1 ∧ held ad k ∧ h = .panel ad k) →
        (s.stern.seq.running = true → refused .busy 0) ∧
        (b.p1 = 1 → s.stern.seq.running = false → s.stern.seqWork = [] → s.Unwatched →
          s.stern.hatch.state = .extended → s.stern.hatch.cooldown = none → s.lacksRole .hatch 0 = false →
          s.roleActive .hatchClosedEnd = false → failingInterlock .hatch 0 s = none → s.stern.pack.pump = .off →
          0 < s.cfg.axes.hatch.pumpLead → fits s.budget.res.stern s.cfg.axes.hatch.amount → s.bind.dropped = 0 →
          silent .axisStart 1 none →
          t.stern.seq = { state := .step1, kind := some .garageClose, axis := some .hatch, holder := h, ended := none } ∧
          t.stern.hatch.state = .retracting ∧ t.stern.hatch.holder = .sequence ∧ t.stern.hatch.target = 0 ∧
          t.stern.platform = s.stern.platform ∧ t.stern.pack.pump = .lead ∧ t.bind = u.bind ∧ t.wl = s.wl ∧
          t.cfg = s.cfg ∧ ∀ ad k, h = .panel ad k → holds ad k .sequence)) ∧
      (b.action = .windlassStop → (s.wl.state.running = false → t = u) ∧
        (s.wl.state.running = true → s.stern.seqWork = [] → s.bind.dropped = 0 →
          silent .windlassStopped 0 (some (codeIn stopCauses .hostStop)) →
          t.wl = { s.wl with
            state := .braking, holder := .none, mode := none, target := none, brakingEnd := some .idle, phaseMs := 0,
            jogOn := false, up := false, down := false, stall := none } ∧
          t.budget.res = { s.budget.res with windlass := none } ∧ t.bind = u.bind ∧ t.stern = s.stern ∧
          t.cfg = s.cfg)) ∧
      (s.wl.state = .idle → s.wl.conflict = false → s.wl.holds = [] → s.motorCurrent.isSome → s.Unwatched →
        fits s.budget.res.windlass s.cfg.windlass.amount → s.stern.seqWork = [] → s.bind.dropped = 0 →
        silent .windlassStart 0 none → silent .anchoredClear 0 none →
        let runs (st : WlState) (mode : WlMode) (target : Option Nat) (up : Bool) (h : WlHolder) :=
          t.wl.state = st ∧ t.wl.mode = some mode ∧ t.wl.target = target ∧ t.wl.up = up ∧ t.wl.down = !up ∧
          t.wl.brakeFree = true ∧ t.wl.holder = h ∧ t.vessel.anchored = false ∧
          t.budget.res = { s.budget.res with windlass := some s.cfg.windlass.amount } ∧ t.bind = u.bind ∧
          t.stern = s.stern ∧ t.cfg = s.cfg
        (b.action = .windlassAuto → auto →
          (b.p1 = 0 → s.wl.count < min b.p2.toNat s.cfg.windlass.maxRod →
            runs .lowering .lowerTo (some (min b.p2.toNat s.cfg.windlass.maxRod)) false .bindingAuto) ∧
          (b.p1 = 1 → s.roleHeld .anchorHome = true → s.roleActive .anchorHome = false →
            s.cfg.windlass.jogZone < s.wl.count → runs .hoisting .hoistHome none true .bindingAuto)) ∧
        (∀ ad k, b.action = .windlassHold → held ad k →
          (b.p1 = 0 → s.roleActive .anchorHome = false →
            runs .hoisting .hold none true (.panel ad k) ∧ t.wl.holds = [⟨.panel ad k, .up⟩] ∧ holds ad k .windlass) ∧
          (b.p1 = 1 →
            runs .lowering .hold none false (.panel ad k) ∧ t.wl.holds = [⟨.panel ad k, .down⟩] ∧
              holds ad k .windlass))) ∧
      (∀ p : Fin 4, e = .internal .playerDone p (some (codeIn playerOutcomes .empty)) → b.action = .sceneStart →
        b.p1 = p → b.event = true → s.sceneAt b.p2.toNat = none → (s.player p).state = .idle →
        (s.player p).scene = none → (s.player p).active = [] → (s.player p).pendingTrig = none → s.Between →
        s.bind.dropped = 0 →
        let done := notice .playerDone p
          [255, codeIn playerOutcomes .empty, (s.player p).repeats, value2 (TrigSource.eventBinding i).pair]
        t.bind = { s.bind with counts := s.bind.counts.set i (min 65535 (s.bind.counts[i] + 4)) } ∧
        t.link.queue = (notice .chainLimit i [codeIn evCodes .playerDone, p]
          (done (done (done (done s))))).link.queue))) ∧
  (∀ (e : Event) (s : State),
    (∀ d i, s.starting = false → s.bind.acting = some (d, i) → offerNow e s =
      if s.bind.events.length < 16 then { s with bind := { s.bind with events := s.bind.events ++ [⟨e, d + 1, i⟩] } }
      else { s with bind := { s.bind with dropped := min 65535 (s.bind.dropped + 1) } }) ∧
    (∀ code sub v d i, 4 ≤ d → e = .internal code sub v →
      takeEvent ⟨e, d, i⟩ s = notice .chainLimit i [codeIn evCodes code, sub] s) ∧
    (∀ d i, d < 4 → s.matching e = none → takeEvent ⟨e, d, i⟩ s = s ∧
      (s.bind.events = [⟨e, d, i⟩] → s.bind.dropped ≠ 0 → s.stern.seqWork = [] →
        takeEvents 1 s = notice .eventsDropped 0 [s.bind.dropped]
          { s with bind := { s.bind with events := [], dropped := 0 } }) ∧
      (s.bind.startUp = [e] → s.bind.droppedStartUp ≠ 0 →
        takeStartUp 1 s = notice .eventsDropped 1 [s.bind.droppedStartUp]
          { s with bind := { s.bind with startUp := [], droppedStartUp := 0 } })))

/-! ### Configuration -/

/-- CONFIG_WRITE: an item that does not exist and a value out of range are OUT_OF_RANGE, a wrong size BAD_LENGTH, a
write that conflicts CONFLICT, one to LIMITS without the active commission key PROTECTED, one during a commit BUSY;
then nothing changes. An equal value is taken and changes nothing; a new one changes the working copy and marks its
section, and what applies at its next use does no more. At once: a limit of the active source and M start an
evaluation; a channel's class, type or rated current starts one, and its type or partner resets its control state,
the former player being told; a digital input whose role, level or mode changes restarts, and an active one first
reads inactive to its reader; an axis that is STOWED as the write is taken faults with LATCH where its stow end
reads so, and where its stow end or latch input loses its role, also a stow end that read inactive before (the
model's choice, log 66); a role taken from an analog input reads as a sensor fault to its reader; SHORE_INPUT_WINS
derives the active source; SUPERVISION starts its timer again; PITCH and ANCHORED_MIN have the anchored flag
judged; a RUN_LIMIT at or below the run timer gives RUN_TIMEOUT; T_MAX holds T to it, with the tests of the lockout
and of its end. The order inside a channel's write is the model's (log 34), and so are that a new threshold that is
not 0 keeps the time already counted and a new run time is judged against the running timer (log 117), the widths
of the fields that R213 does not list (log 112), STUCK_CLEARED of a restarted input (log 41) and that an equal
write of the key holder's record is PROTECTED with the key off (log 84). A player that loses the channel is taken
to hold it once. -/
def Obligations.ConfigWritesAreChecked : Prop :=
  ∀ (q : Req) (sec item : Nat) (value : List Byte) (s : State), s.Takes →
    let write := exec (.configWrite q sec item value) s
    let refused (c : Status) := write = .next (withReply 0x1E q (Ans.refused c) s)
    (itemAt sec item = none → 3 ≤ q.len → refused .outOfRange) ∧
    (q.len < 3 → refused .badLength) ∧
    (∀ it, itemAt sec item = some it →
      (q.len ≠ 2 + it.size → refused .badLength) ∧
      (q.len = 2 + it.size → 3 ≤ q.len → it.write value s.cfg = none → refused .outOfRange) ∧
      (∀ c, q.len = 2 + it.size → 3 ≤ q.len → it.write value s.cfg = some c →
        (sec = 8 → c.limits.linked = false → refused .outOfRange) ∧
        ((sec = 8 → c.limits.linked = true) →
          (conflicts sec c = true → refused .conflict) ∧
          (conflicts sec c = false →
            (s.protectedWrite sec item c = true → s.roleActive .commissionKey = false → refused .prot) ∧
            (s.protectedWrite sec item c = false ∨ s.roleActive .commissionKey = true →
              (s.committing = true → refused .busy) ∧
              (s.committing = false → c = s.cfg → write = .next (withReply 0x1E q Ans.ok s)) ∧
              (s.committing = false → c ≠ s.cfg →
                let w := { s.taken 0x1E q with
                  cfg := c, dev := { s.dev with changed := s.dev.changed ||| (1#9 <<< sec) } }
                let done (t : State) := write = .next (formReply 0x1E q.tag Ans.ok t)
                let taken (t : State) := write = .next t ∧ t.cfg = c ∧
                  t.link.replies = s.link.replies ++ [⟨0x1E, q.tag, .ok, 0, []⟩]
                (sec = 4 ∨ sec = 5 ∨ (sec = 6 ∧ item ≠ 1 ∧ item ≠ 4) ∨ (sec = 1 ∧ 24 ≤ item) ∨
                  (sec = 7 ∧ item ≠ codeIn sources s.vessel.active) ∨
                  (sec = 8 ∧ item ≠ 0 ∧ item ≠ 7 ∧ item ≠ 8 ∧ item ≠ 13) → done w) ∧
                ((sec = 7 ∧ item = codeIn sources s.vessel.active) ∨ (sec = 8 ∧ item = 0) → done (evaluate w)) ∧
                (∀ i : Fin 24, sec = 1 → item = i →
                  let old := s.chCfg i
                  let k := w.chCfg i
                  let off (x : Channel) := if k.openThr = 0 then { x with openFlag := false, openMs := 0 } else x
                  (old.type = k.type → old.partner = k.partner →
                    done (if old.cls = k.cls ∧ old.rated = k.rated then w.setChan i (off s.chan[i])
                      else evaluate (w.setChan i (off s.chan[i])))) ∧
                  (old.type ≠ k.type ∨ old.partner ≠ k.partner → s.Calm →
                    (∀ p, s.chan[i].owner = .player p →
                      (s.player p).pendingTrig = none ∧ (s.player p).active.Nodup) →
                    ∃ t, taken t ∧ t.chan[i].fade = none ∧ t.chan[i].runMs = none ∧
                      t.chan[i].level = (if k.type = .beacon ∧ s.beacon.blinking = true then 1000 else 0) ∧
                      t.chan[i].owner = (if k.type = .beacon then Owner.beacon else Owner.none) ∧
                      t.chan[i].fault = s.chan[i].fault ∧ t.chan[i].retry = s.chan[i].retry ∧
                      t.chan[i].seriesStart = s.chan[i].seriesStart ∧
                      (k.openThr ≠ 0 → t.chan[i].openFlag = s.chan[i].openFlag) ∧
                      (k.type = .unused → t.gateOn i = false) ∧
                      (old.type ≠ k.type → t.budget.last = evalFigures t) ∧
                      (∀ j : Fin 24, j ≠ i → t.chan[j].level = s.chan[j].level) ∧
                      (∀ p, s.chan[i].owner = .player p → i.val ∉ (t.player p).active) ∧
                      t.beacon = s.beacon ∧ t.stern = s.stern ∧ t.wl = s.wl)) ∧
                (∀ n : Fin 16, sec = 0 → item = n →
                  let old := s.diCfg n
                  let k := w.diCfg n
                  let d := s.diRt n
                  let fresh (t : State) := t.setDi n { pin := d.pin }
                  let same := old.role = k.role ∧ old.activeHigh = k.activeHigh ∧ old.pulse = k.pulse
                  let watches (a : AxisId) := (old.role = stowRole a ∨ old.role = latchRole a) ∧ k.role ≠ old.role ∧
                    (s.axis a).state = .stowed
                  (same → done w) ∧
                  (¬same → (∀ a, ¬watches a) → d.stuck = true →
                    done (fresh (notice .stuckCleared n [old.roleCode] w))) ∧
                  (¬same → (∀ a, ¬watches a) → d.stuck = false → d.filtered = false ∨ old.pulse = true →
                    done (fresh w)) ∧
                  (∀ a, watches a → s.Calm → s.Unwatched → (s.axis (otherAxis a)).state.watched = false →
                    s.stern.seq.running = false →
                    ∃ t, taken t ∧ t.diRt n = { pin := d.pin } ∧ (t.axis a).state = .fault ∧
                      (t.axis a).fault = some ⟨.latch, .stowed, s.position a, (s.axis a).runMs, 0⟩ ∧
                      t.axis (otherAxis a) = s.axis (otherAxis a) ∧ t.wl = s.wl) ∧
                  (¬same → s.Calm → s.Unwatched → old.pulse = false → d.filtered = true → d.stuck = false →
                    (old.role = .general ∨ old.role = .swimZone ∨ old.role = .commissionKey →
                      done (fresh (notice .inInactive n [old.roleCode] w))) ∧
                    (∀ a, s.roleInput (stowRole a) = some n → (s.axis a).state = .stowed →
                      (s.axis (otherAxis a)).state.watched = false → s.stern.seq.running = false →
                      ∃ t, taken t ∧ t.diRt n = { pin := d.pin } ∧ (t.axis a).state = .fault ∧
                        (t.axis a).fault = some ⟨.latch, .stowed, s.position a, (s.axis a).runMs, 0⟩ ∧
                        t.axis (otherAxis a) = s.axis (otherAxis a) ∧ t.wl = s.wl))) ∧
                (∀ n : Fin 4, sec = 0 → item = 16 + n →
                  let old := (s.aiCfg n).role
                  let lost (t : State) := taken t ∧ t.aiRt n = {}
                  (old = (w.aiCfg n).role → done w) ∧
                  ((w.aiCfg n).role = .unused → (∀ m : Fin 4, m ≠ n → (s.aiCfg m).role ≠ old) → s.Calm →
                    s.stern.seq.running = false →
                    (old = .busVoltage → ∃ t, lost t ∧ t.budget.supply = .brownout ∧ t.budget.held = true ∧
                      t.stern = s.stern ∧ t.wl = s.wl) ∧
                    (old = .windlassCurrent → s.wl.state.powered = true → ∃ t, lost t ∧ t.wl.state = .braking ∧
                      t.wl.brakingEnd = some .fault ∧ t.wl.up = false ∧ t.wl.down = false ∧
                      t.wl.faultRec = some ⟨.currentSensor, s.wl.state, s.wl.count, s.wl.lastCurrent, 0⟩ ∧
                      t.stern = s.stern) ∧
                    (old = .platPosition → s.stern.platform.state ≠ .fault → s.stern.hatch.state.watched = false →
                      ∃ t, lost t ∧ t.stern.platform.state = .fault ∧ t.stern.platform.holder = .none ∧
                        t.stern.platform.fault =
                          some ⟨.positionSensor, s.stern.platform.state, none, s.stern.platform.runMs, 0⟩ ∧
                        t.stern.hatch = s.stern.hatch ∧ t.wl = s.wl))) ∧
                (sec = 0 → item = 20 → s.Unwatched →
                  let u := { w with vessel := { w.vessel with active := w.derivedSource } }
                  (w.derivedSource = s.vessel.active → done w) ∧
                  (w.derivedSource ≠ s.vessel.active → done (notice .sourceChanged 0
                    [codeIn sources s.vessel.active, codeIn sources w.derivedSource, 2] (evaluate u)))) ∧
                (sec = 0 → item = 21 → done (if s.link.device = .linked
                  then { w with link := { w.link with supervision := w.supervisionStart } } else w)) ∧
                (sec = 6 → item = 1 ∨ item = 4 → s.Calm → s.Unwatched →
                  let long := c.windlass.anchoredMin ≤ min 65535 (s.wl.count * c.windlass.pitch / 100)
                  ∃ t, taken t ∧
                  t.vessel = { s.vessel with anchored := s.wl.state.atRest && decide long } ∧
                  t.wl = s.wl ∧ t.stern = s.stern ∧ t.budget = s.budget ∧
                  (t.vessel.anchored ≠ s.vessel.anchored →
                    Gives (if t.vessel.anchored then .anchoredSet else .anchoredClear) 0 [t.chainLength] s t)) ∧
                (∀ a : AxisId, sec = 8 → item = 7 + axisIdx a →
                  ((s.axis a).state.driving = false ∨ (s.axis a).runMs < w.runLimit a → done w) ∧
                  ((s.axis a).state.driving = true → s.stern.pack.axis = some a → w.runLimit a ≤ (s.axis a).runMs →
                    s.Calm → s.stern.seq.running = false → ∃ t, taken t ∧ (t.axis a).state = .fault ∧
                      (t.axis a).fault.map (·.cause) = some .runTimeout ∧ t.stern.pack = {} ∧
                      (t.axis a).cooldown = some (s.cooldownTime a * 1000) ∧ t.budget.res.stern = none ∧
                      t.axis (otherAxis a) = s.axis (otherAxis a) ∧ t.wl = s.wl)) ∧
                (sec = 8 → item = 13 →
                  let heat := min s.wl.heat c.limits.tMax
                  (s.wl.state.powered = false ∨ s.wl.heat < c.limits.tMax → s.wl.state ≠ .lockout →
                    done (w.setWl { s.wl with heat := heat })) ∧
                  (s.wl.state.powered = true → c.limits.tMax ≤ s.wl.heat → s.Calm → ∃ t, taken t ∧
                    t.wl.heat = heat ∧ t.wl.state = .braking ∧ t.wl.brakingEnd = some .lockout ∧ t.wl.up = false ∧
                    t.wl.down = false ∧ t.budget.res.windlass = none ∧ Gives .thermalLockout 0 [heat] s t) ∧
                  (s.wl.state = .lockout → heat ≤ c.limits.tMax / 2 → s.Calm → s.Unwatched → ∃ t, taken t ∧
                    t.wl = { s.wl with heat := heat, state := .idle } ∧ Gives .lockoutEnd 0 [heat] s t) ∧
                  (s.wl.state = .lockout → c.limits.tMax / 2 < heat →
                    done (w.setWl { s.wl with heat := heat }))))))))) ∧
    (∀ (n : Nat) (cfg : Cfg), n < 65536 → ∀ it, itemAt 6 2 = some it → it.size = 2 ∧ it.write (le16 n) cfg =
      if 1 ≤ n ∧ n ≤ 9999 then some { cfg with windlass := { cfg.windlass with maxRod := n } } else none) ∧
    (sec = 8 → ∀ c, s.protectedWrite sec item c = true)

/-- COMMIT invalidates the mark and erases the first section that needs a write, or is done at once where none
does, with COMMIT_DONE and 0 ms: the comparing takes no time (the model's choice, log 21). A section written and
read back equal is stored, and the next one that needs a write is erased; after the last the commit is done: the
mark is set and the changed marks are cleared. One read back different is erased, and the commit has failed: the
mark stays as the COMMIT left it, and the marks of the sections written are cleared. -/
def Obligations.CommitWritesTheChangedSections : Prop :=
  ∀ (q : Req) (s : State),
    let needs (sec : Nat) := s.dev.changed.getLsbD sec = true ∨ sectionEqual s.nv s.cfg sec = false
    let off := { s.nv with mark := false }
    (q.len = 0 → s.Takes →
      (s.committing = true → ∀ k, s.dev.commit = some k → k.writing = true →
        exec (.commit q) s = .next (withReply 0x20 q (Ans.refused .busy) s)) ∧
      (∀ sec, s.committing = false → sec < 9 → needs sec → (∀ k, k < sec → ¬needs k) →
        exec (.commit q) s = .next { withReply 0x20 q Ans.ok s with
          nv := off.put none sec, dev := { s.dev with commit := some ⟨sec, true, [], 0⟩ } }) ∧
      (s.committing = false → (∀ sec, sec < 9 → ¬needs sec) → exec (.commit q) s = .next
        (notice .commitDone 0 [0] { withReply 0x20 q Ans.ok s with
          nv := { s.nv with mark := true }, dev := { s.dev with commit := none, changed := 0 } }))) ∧
    (∀ k, s.dev.commit = some k → k.writing = true → k.sec < 9 →
      (∀ sec, k.sec < sec → sec < 9 → needs sec → (∀ j, k.sec < j → j < sec → ¬needs j) →
        exec (.commitSectionDone true) s = .next { s with
          nv := (s.nv.put (some s.cfg) k.sec).put none sec
          dev := { s.dev with commit := some ⟨sec, true, k.written ++ [k.sec], k.ms⟩ } }) ∧
      ((∀ sec, k.sec < sec → sec < 9 → ¬needs sec) → exec (.commitSectionDone true) s = .next
        (notice .commitDone 0 [k.ms] { s with
          nv := { s.nv.put (some s.cfg) k.sec with mark := true }
          dev := { s.dev with commit := none, changed := 0 } })) ∧
      exec (.commitSectionDone false) s = .next (notice .commitFailed 0 [k.sec] { s with
        nv := s.nv.put none k.sec
        dev := { s.dev with commit := none, changed := clearMarks k.written s.dev.changed } }))
end

