-- ==== Sys2Proof/Laws/State.lean ====
section
/-! SUPPORT. What each write of a record leaves: one lemma per field per write. -/

namespace Sys2Proof.Machine

/-! ### setChan -/

@[simp] theorem setChan_cfg (s : State) (i : Fin 24) (c : Channel) : (s.setChan i c).cfg = s.cfg := rfl
@[simp] theorem setChan_nv (s : State) (i : Fin 24) (c : Channel) : (s.setChan i c).nv = s.nv := rfl
@[simp] theorem setChan_beacon (s : State) (i : Fin 24) (c : Channel) : (s.setChan i c).beacon = s.beacon := rfl
@[simp] theorem setChan_budget (s : State) (i : Fin 24) (c : Channel) : (s.setChan i c).budget = s.budget := rfl
@[simp] theorem setChan_scene (s : State) (i : Fin 24) (c : Channel) : (s.setChan i c).scene = s.scene := rfl
@[simp] theorem setChan_inp (s : State) (i : Fin 24) (c : Channel) : (s.setChan i c).inp = s.inp := rfl
@[simp] theorem setChan_vessel (s : State) (i : Fin 24) (c : Channel) : (s.setChan i c).vessel = s.vessel := rfl
@[simp] theorem setChan_stern (s : State) (i : Fin 24) (c : Channel) : (s.setChan i c).stern = s.stern := rfl
@[simp] theorem setChan_wl (s : State) (i : Fin 24) (c : Channel) : (s.setChan i c).wl = s.wl := rfl
@[simp] theorem setChan_panel (s : State) (i : Fin 24) (c : Channel) : (s.setChan i c).panel = s.panel := rfl
@[simp] theorem setChan_bind (s : State) (i : Fin 24) (c : Channel) : (s.setChan i c).bind = s.bind := rfl
@[simp] theorem setChan_link (s : State) (i : Fin 24) (c : Channel) : (s.setChan i c).link = s.link := rfl
@[simp] theorem setChan_dev (s : State) (i : Fin 24) (c : Channel) : (s.setChan i c).dev = s.dev := rfl
@[simp] theorem setChan_pending (s : State) (i : Fin 24) (c : Channel) : (s.setChan i c).pending = s.pending := rfl

/-! ### modChan -/

@[simp] theorem modChan_cfg (s : State) (i : Fin 24) (f : Channel → Channel) : (s.modChan i f).cfg = s.cfg := rfl
@[simp] theorem modChan_nv (s : State) (i : Fin 24) (f : Channel → Channel) : (s.modChan i f).nv = s.nv := rfl
@[simp] theorem modChan_beacon (s : State) (i : Fin 24) (f : Channel → Channel) : (s.modChan i f).beacon = s.beacon := rfl
@[simp] theorem modChan_budget (s : State) (i : Fin 24) (f : Channel → Channel) : (s.modChan i f).budget = s.budget := rfl
@[simp] theorem modChan_scene (s : State) (i : Fin 24) (f : Channel → Channel) : (s.modChan i f).scene = s.scene := rfl
@[simp] theorem modChan_inp (s : State) (i : Fin 24) (f : Channel → Channel) : (s.modChan i f).inp = s.inp := rfl
@[simp] theorem modChan_vessel (s : State) (i : Fin 24) (f : Channel → Channel) : (s.modChan i f).vessel = s.vessel := rfl
@[simp] theorem modChan_stern (s : State) (i : Fin 24) (f : Channel → Channel) : (s.modChan i f).stern = s.stern := rfl
@[simp] theorem modChan_wl (s : State) (i : Fin 24) (f : Channel → Channel) : (s.modChan i f).wl = s.wl := rfl
@[simp] theorem modChan_panel (s : State) (i : Fin 24) (f : Channel → Channel) : (s.modChan i f).panel = s.panel := rfl
@[simp] theorem modChan_bind (s : State) (i : Fin 24) (f : Channel → Channel) : (s.modChan i f).bind = s.bind := rfl
@[simp] theorem modChan_link (s : State) (i : Fin 24) (f : Channel → Channel) : (s.modChan i f).link = s.link := rfl
@[simp] theorem modChan_dev (s : State) (i : Fin 24) (f : Channel → Channel) : (s.modChan i f).dev = s.dev := rfl
@[simp] theorem modChan_pending (s : State) (i : Fin 24) (f : Channel → Channel) : (s.modChan i f).pending = s.pending := rfl

/-! ### setPlayer -/

@[simp] theorem setPlayer_cfg (s : State) (p : Fin 4) (x : Player) : (s.setPlayer p x).cfg = s.cfg := rfl
@[simp] theorem setPlayer_nv (s : State) (p : Fin 4) (x : Player) : (s.setPlayer p x).nv = s.nv := rfl
@[simp] theorem setPlayer_chan (s : State) (p : Fin 4) (x : Player) : (s.setPlayer p x).chan = s.chan := rfl
@[simp] theorem setPlayer_beacon (s : State) (p : Fin 4) (x : Player) : (s.setPlayer p x).beacon = s.beacon := rfl
@[simp] theorem setPlayer_budget (s : State) (p : Fin 4) (x : Player) : (s.setPlayer p x).budget = s.budget := rfl
@[simp] theorem setPlayer_inp (s : State) (p : Fin 4) (x : Player) : (s.setPlayer p x).inp = s.inp := rfl
@[simp] theorem setPlayer_vessel (s : State) (p : Fin 4) (x : Player) : (s.setPlayer p x).vessel = s.vessel := rfl
@[simp] theorem setPlayer_stern (s : State) (p : Fin 4) (x : Player) : (s.setPlayer p x).stern = s.stern := rfl
@[simp] theorem setPlayer_wl (s : State) (p : Fin 4) (x : Player) : (s.setPlayer p x).wl = s.wl := rfl
@[simp] theorem setPlayer_panel (s : State) (p : Fin 4) (x : Player) : (s.setPlayer p x).panel = s.panel := rfl
@[simp] theorem setPlayer_bind (s : State) (p : Fin 4) (x : Player) : (s.setPlayer p x).bind = s.bind := rfl
@[simp] theorem setPlayer_link (s : State) (p : Fin 4) (x : Player) : (s.setPlayer p x).link = s.link := rfl
@[simp] theorem setPlayer_dev (s : State) (p : Fin 4) (x : Player) : (s.setPlayer p x).dev = s.dev := rfl
@[simp] theorem setPlayer_pending (s : State) (p : Fin 4) (x : Player) : (s.setPlayer p x).pending = s.pending := rfl

/-! ### modPlayer -/

@[simp] theorem modPlayer_cfg (s : State) (p : Fin 4) (f : Player → Player) : (s.modPlayer p f).cfg = s.cfg := rfl
@[simp] theorem modPlayer_nv (s : State) (p : Fin 4) (f : Player → Player) : (s.modPlayer p f).nv = s.nv := rfl
@[simp] theorem modPlayer_chan (s : State) (p : Fin 4) (f : Player → Player) : (s.modPlayer p f).chan = s.chan := rfl
@[simp] theorem modPlayer_beacon (s : State) (p : Fin 4) (f : Player → Player) : (s.modPlayer p f).beacon = s.beacon := rfl
@[simp] theorem modPlayer_budget (s : State) (p : Fin 4) (f : Player → Player) : (s.modPlayer p f).budget = s.budget := rfl
@[simp] theorem modPlayer_inp (s : State) (p : Fin 4) (f : Player → Player) : (s.modPlayer p f).inp = s.inp := rfl
@[simp] theorem modPlayer_vessel (s : State) (p : Fin 4) (f : Player → Player) : (s.modPlayer p f).vessel = s.vessel := rfl
@[simp] theorem modPlayer_stern (s : State) (p : Fin 4) (f : Player → Player) : (s.modPlayer p f).stern = s.stern := rfl
@[simp] theorem modPlayer_wl (s : State) (p : Fin 4) (f : Player → Player) : (s.modPlayer p f).wl = s.wl := rfl
@[simp] theorem modPlayer_panel (s : State) (p : Fin 4) (f : Player → Player) : (s.modPlayer p f).panel = s.panel := rfl
@[simp] theorem modPlayer_bind (s : State) (p : Fin 4) (f : Player → Player) : (s.modPlayer p f).bind = s.bind := rfl
@[simp] theorem modPlayer_link (s : State) (p : Fin 4) (f : Player → Player) : (s.modPlayer p f).link = s.link := rfl
@[simp] theorem modPlayer_dev (s : State) (p : Fin 4) (f : Player → Player) : (s.modPlayer p f).dev = s.dev := rfl
@[simp] theorem modPlayer_pending (s : State) (p : Fin 4) (f : Player → Player) : (s.modPlayer p f).pending = s.pending := rfl

/-! ### setDi -/

@[simp] theorem setDi_cfg (s : State) (n : Fin 16) (d : DiRt) : (s.setDi n d).cfg = s.cfg := rfl
@[simp] theorem setDi_nv (s : State) (n : Fin 16) (d : DiRt) : (s.setDi n d).nv = s.nv := rfl
@[simp] theorem setDi_chan (s : State) (n : Fin 16) (d : DiRt) : (s.setDi n d).chan = s.chan := rfl
@[simp] theorem setDi_beacon (s : State) (n : Fin 16) (d : DiRt) : (s.setDi n d).beacon = s.beacon := rfl
@[simp] theorem setDi_budget (s : State) (n : Fin 16) (d : DiRt) : (s.setDi n d).budget = s.budget := rfl
@[simp] theorem setDi_scene (s : State) (n : Fin 16) (d : DiRt) : (s.setDi n d).scene = s.scene := rfl
@[simp] theorem setDi_vessel (s : State) (n : Fin 16) (d : DiRt) : (s.setDi n d).vessel = s.vessel := rfl
@[simp] theorem setDi_stern (s : State) (n : Fin 16) (d : DiRt) : (s.setDi n d).stern = s.stern := rfl
@[simp] theorem setDi_wl (s : State) (n : Fin 16) (d : DiRt) : (s.setDi n d).wl = s.wl := rfl
@[simp] theorem setDi_panel (s : State) (n : Fin 16) (d : DiRt) : (s.setDi n d).panel = s.panel := rfl
@[simp] theorem setDi_bind (s : State) (n : Fin 16) (d : DiRt) : (s.setDi n d).bind = s.bind := rfl
@[simp] theorem setDi_link (s : State) (n : Fin 16) (d : DiRt) : (s.setDi n d).link = s.link := rfl
@[simp] theorem setDi_dev (s : State) (n : Fin 16) (d : DiRt) : (s.setDi n d).dev = s.dev := rfl
@[simp] theorem setDi_pending (s : State) (n : Fin 16) (d : DiRt) : (s.setDi n d).pending = s.pending := rfl

/-! ### setAi -/

@[simp] theorem setAi_cfg (s : State) (n : Fin 4) (d : AiRt) : (s.setAi n d).cfg = s.cfg := rfl
@[simp] theorem setAi_nv (s : State) (n : Fin 4) (d : AiRt) : (s.setAi n d).nv = s.nv := rfl
@[simp] theorem setAi_chan (s : State) (n : Fin 4) (d : AiRt) : (s.setAi n d).chan = s.chan := rfl
@[simp] theorem setAi_beacon (s : State) (n : Fin 4) (d : AiRt) : (s.setAi n d).beacon = s.beacon := rfl
@[simp] theorem setAi_budget (s : State) (n : Fin 4) (d : AiRt) : (s.setAi n d).budget = s.budget := rfl
@[simp] theorem setAi_scene (s : State) (n : Fin 4) (d : AiRt) : (s.setAi n d).scene = s.scene := rfl
@[simp] theorem setAi_vessel (s : State) (n : Fin 4) (d : AiRt) : (s.setAi n d).vessel = s.vessel := rfl
@[simp] theorem setAi_stern (s : State) (n : Fin 4) (d : AiRt) : (s.setAi n d).stern = s.stern := rfl
@[simp] theorem setAi_wl (s : State) (n : Fin 4) (d : AiRt) : (s.setAi n d).wl = s.wl := rfl
@[simp] theorem setAi_panel (s : State) (n : Fin 4) (d : AiRt) : (s.setAi n d).panel = s.panel := rfl
@[simp] theorem setAi_bind (s : State) (n : Fin 4) (d : AiRt) : (s.setAi n d).bind = s.bind := rfl
@[simp] theorem setAi_link (s : State) (n : Fin 4) (d : AiRt) : (s.setAi n d).link = s.link := rfl
@[simp] theorem setAi_dev (s : State) (n : Fin 4) (d : AiRt) : (s.setAi n d).dev = s.dev := rfl
@[simp] theorem setAi_pending (s : State) (n : Fin 4) (d : AiRt) : (s.setAi n d).pending = s.pending := rfl

/-! ### setChain -/

@[simp] theorem setChain_cfg (s : State) (c : ChainDec) : (s.setChain c).cfg = s.cfg := rfl
@[simp] theorem setChain_nv (s : State) (c : ChainDec) : (s.setChain c).nv = s.nv := rfl
@[simp] theorem setChain_chan (s : State) (c : ChainDec) : (s.setChain c).chan = s.chan := rfl
@[simp] theorem setChain_beacon (s : State) (c : ChainDec) : (s.setChain c).beacon = s.beacon := rfl
@[simp] theorem setChain_budget (s : State) (c : ChainDec) : (s.setChain c).budget = s.budget := rfl
@[simp] theorem setChain_scene (s : State) (c : ChainDec) : (s.setChain c).scene = s.scene := rfl
@[simp] theorem setChain_vessel (s : State) (c : ChainDec) : (s.setChain c).vessel = s.vessel := rfl
@[simp] theorem setChain_stern (s : State) (c : ChainDec) : (s.setChain c).stern = s.stern := rfl
@[simp] theorem setChain_wl (s : State) (c : ChainDec) : (s.setChain c).wl = s.wl := rfl
@[simp] theorem setChain_panel (s : State) (c : ChainDec) : (s.setChain c).panel = s.panel := rfl
@[simp] theorem setChain_bind (s : State) (c : ChainDec) : (s.setChain c).bind = s.bind := rfl
@[simp] theorem setChain_link (s : State) (c : ChainDec) : (s.setChain c).link = s.link := rfl
@[simp] theorem setChain_dev (s : State) (c : ChainDec) : (s.setChain c).dev = s.dev := rfl
@[simp] theorem setChain_pending (s : State) (c : ChainDec) : (s.setChain c).pending = s.pending := rfl

/-! ### setEntry -/

@[simp] theorem setEntry_cfg (s : State) (p : Fin 32) (e : Panel) : (s.setEntry p e).cfg = s.cfg := rfl
@[simp] theorem setEntry_nv (s : State) (p : Fin 32) (e : Panel) : (s.setEntry p e).nv = s.nv := rfl
@[simp] theorem setEntry_chan (s : State) (p : Fin 32) (e : Panel) : (s.setEntry p e).chan = s.chan := rfl
@[simp] theorem setEntry_beacon (s : State) (p : Fin 32) (e : Panel) : (s.setEntry p e).beacon = s.beacon := rfl
@[simp] theorem setEntry_budget (s : State) (p : Fin 32) (e : Panel) : (s.setEntry p e).budget = s.budget := rfl
@[simp] theorem setEntry_scene (s : State) (p : Fin 32) (e : Panel) : (s.setEntry p e).scene = s.scene := rfl
@[simp] theorem setEntry_inp (s : State) (p : Fin 32) (e : Panel) : (s.setEntry p e).inp = s.inp := rfl
@[simp] theorem setEntry_vessel (s : State) (p : Fin 32) (e : Panel) : (s.setEntry p e).vessel = s.vessel := rfl
@[simp] theorem setEntry_stern (s : State) (p : Fin 32) (e : Panel) : (s.setEntry p e).stern = s.stern := rfl
@[simp] theorem setEntry_wl (s : State) (p : Fin 32) (e : Panel) : (s.setEntry p e).wl = s.wl := rfl
@[simp] theorem setEntry_bind (s : State) (p : Fin 32) (e : Panel) : (s.setEntry p e).bind = s.bind := rfl
@[simp] theorem setEntry_link (s : State) (p : Fin 32) (e : Panel) : (s.setEntry p e).link = s.link := rfl
@[simp] theorem setEntry_dev (s : State) (p : Fin 32) (e : Panel) : (s.setEntry p e).dev = s.dev := rfl
@[simp] theorem setEntry_pending (s : State) (p : Fin 32) (e : Panel) : (s.setEntry p e).pending = s.pending := rfl

/-! ### modEntry -/

@[simp] theorem modEntry_cfg (s : State) (p : Fin 32) (f : Panel → Panel) : (s.modEntry p f).cfg = s.cfg := rfl
@[simp] theorem modEntry_nv (s : State) (p : Fin 32) (f : Panel → Panel) : (s.modEntry p f).nv = s.nv := rfl
@[simp] theorem modEntry_chan (s : State) (p : Fin 32) (f : Panel → Panel) : (s.modEntry p f).chan = s.chan := rfl
@[simp] theorem modEntry_beacon (s : State) (p : Fin 32) (f : Panel → Panel) : (s.modEntry p f).beacon = s.beacon := rfl
@[simp] theorem modEntry_budget (s : State) (p : Fin 32) (f : Panel → Panel) : (s.modEntry p f).budget = s.budget := rfl
@[simp] theorem modEntry_scene (s : State) (p : Fin 32) (f : Panel → Panel) : (s.modEntry p f).scene = s.scene := rfl
@[simp] theorem modEntry_inp (s : State) (p : Fin 32) (f : Panel → Panel) : (s.modEntry p f).inp = s.inp := rfl
@[simp] theorem modEntry_vessel (s : State) (p : Fin 32) (f : Panel → Panel) : (s.modEntry p f).vessel = s.vessel := rfl
@[simp] theorem modEntry_stern (s : State) (p : Fin 32) (f : Panel → Panel) : (s.modEntry p f).stern = s.stern := rfl
@[simp] theorem modEntry_wl (s : State) (p : Fin 32) (f : Panel → Panel) : (s.modEntry p f).wl = s.wl := rfl
@[simp] theorem modEntry_bind (s : State) (p : Fin 32) (f : Panel → Panel) : (s.modEntry p f).bind = s.bind := rfl
@[simp] theorem modEntry_link (s : State) (p : Fin 32) (f : Panel → Panel) : (s.modEntry p f).link = s.link := rfl
@[simp] theorem modEntry_dev (s : State) (p : Fin 32) (f : Panel → Panel) : (s.modEntry p f).dev = s.dev := rfl
@[simp] theorem modEntry_pending (s : State) (p : Fin 32) (f : Panel → Panel) : (s.modEntry p f).pending = s.pending := rfl

/-! ### closeCall -/

@[simp] theorem closeCall_cfg (s : State) : (s.closeCall).cfg = s.cfg := rfl
@[simp] theorem closeCall_nv (s : State) : (s.closeCall).nv = s.nv := rfl
@[simp] theorem closeCall_chan (s : State) : (s.closeCall).chan = s.chan := rfl
@[simp] theorem closeCall_beacon (s : State) : (s.closeCall).beacon = s.beacon := rfl
@[simp] theorem closeCall_budget (s : State) : (s.closeCall).budget = s.budget := rfl
@[simp] theorem closeCall_scene (s : State) : (s.closeCall).scene = s.scene := rfl
@[simp] theorem closeCall_inp (s : State) : (s.closeCall).inp = s.inp := rfl
@[simp] theorem closeCall_vessel (s : State) : (s.closeCall).vessel = s.vessel := rfl
@[simp] theorem closeCall_stern (s : State) : (s.closeCall).stern = s.stern := rfl
@[simp] theorem closeCall_wl (s : State) : (s.closeCall).wl = s.wl := rfl
@[simp] theorem closeCall_bind (s : State) : (s.closeCall).bind = s.bind := rfl
@[simp] theorem closeCall_link (s : State) : (s.closeCall).link = s.link := rfl
@[simp] theorem closeCall_dev (s : State) : (s.closeCall).dev = s.dev := rfl
@[simp] theorem closeCall_pending (s : State) : (s.closeCall).pending = s.pending := rfl

/-! ### noteAnswer -/

@[simp] theorem noteAnswer_cfg (s : State) (c : Call) (a : SlotAnswer) : (s.noteAnswer c a).cfg = s.cfg := rfl
@[simp] theorem noteAnswer_nv (s : State) (c : Call) (a : SlotAnswer) : (s.noteAnswer c a).nv = s.nv := rfl
@[simp] theorem noteAnswer_chan (s : State) (c : Call) (a : SlotAnswer) : (s.noteAnswer c a).chan = s.chan := rfl
@[simp] theorem noteAnswer_beacon (s : State) (c : Call) (a : SlotAnswer) : (s.noteAnswer c a).beacon = s.beacon := rfl
@[simp] theorem noteAnswer_budget (s : State) (c : Call) (a : SlotAnswer) : (s.noteAnswer c a).budget = s.budget := rfl
@[simp] theorem noteAnswer_scene (s : State) (c : Call) (a : SlotAnswer) : (s.noteAnswer c a).scene = s.scene := rfl
@[simp] theorem noteAnswer_inp (s : State) (c : Call) (a : SlotAnswer) : (s.noteAnswer c a).inp = s.inp := rfl
@[simp] theorem noteAnswer_vessel (s : State) (c : Call) (a : SlotAnswer) : (s.noteAnswer c a).vessel = s.vessel := rfl
@[simp] theorem noteAnswer_stern (s : State) (c : Call) (a : SlotAnswer) : (s.noteAnswer c a).stern = s.stern := rfl
@[simp] theorem noteAnswer_wl (s : State) (c : Call) (a : SlotAnswer) : (s.noteAnswer c a).wl = s.wl := rfl
@[simp] theorem noteAnswer_bind (s : State) (c : Call) (a : SlotAnswer) : (s.noteAnswer c a).bind = s.bind := rfl
@[simp] theorem noteAnswer_link (s : State) (c : Call) (a : SlotAnswer) : (s.noteAnswer c a).link = s.link := rfl
@[simp] theorem noteAnswer_dev (s : State) (c : Call) (a : SlotAnswer) : (s.noteAnswer c a).dev = s.dev := rfl
@[simp] theorem noteAnswer_pending (s : State) (c : Call) (a : SlotAnswer) : (s.noteAnswer c a).pending = s.pending := rfl

/-! ### setPack -/

@[simp] theorem setPack_cfg (s : State) (p : Pack) : (s.setPack p).cfg = s.cfg := rfl
@[simp] theorem setPack_nv (s : State) (p : Pack) : (s.setPack p).nv = s.nv := rfl
@[simp] theorem setPack_chan (s : State) (p : Pack) : (s.setPack p).chan = s.chan := rfl
@[simp] theorem setPack_beacon (s : State) (p : Pack) : (s.setPack p).beacon = s.beacon := rfl
@[simp] theorem setPack_budget (s : State) (p : Pack) : (s.setPack p).budget = s.budget := rfl
@[simp] theorem setPack_scene (s : State) (p : Pack) : (s.setPack p).scene = s.scene := rfl
@[simp] theorem setPack_inp (s : State) (p : Pack) : (s.setPack p).inp = s.inp := rfl
@[simp] theorem setPack_vessel (s : State) (p : Pack) : (s.setPack p).vessel = s.vessel := rfl
@[simp] theorem setPack_wl (s : State) (p : Pack) : (s.setPack p).wl = s.wl := rfl
@[simp] theorem setPack_panel (s : State) (p : Pack) : (s.setPack p).panel = s.panel := rfl
@[simp] theorem setPack_bind (s : State) (p : Pack) : (s.setPack p).bind = s.bind := rfl
@[simp] theorem setPack_link (s : State) (p : Pack) : (s.setPack p).link = s.link := rfl
@[simp] theorem setPack_dev (s : State) (p : Pack) : (s.setPack p).dev = s.dev := rfl
@[simp] theorem setPack_pending (s : State) (p : Pack) : (s.setPack p).pending = s.pending := rfl

/-! ### setSeq -/

@[simp] theorem setSeq_cfg (s : State) (q : Seq) : (s.setSeq q).cfg = s.cfg := rfl
@[simp] theorem setSeq_nv (s : State) (q : Seq) : (s.setSeq q).nv = s.nv := rfl
@[simp] theorem setSeq_chan (s : State) (q : Seq) : (s.setSeq q).chan = s.chan := rfl
@[simp] theorem setSeq_beacon (s : State) (q : Seq) : (s.setSeq q).beacon = s.beacon := rfl
@[simp] theorem setSeq_budget (s : State) (q : Seq) : (s.setSeq q).budget = s.budget := rfl
@[simp] theorem setSeq_scene (s : State) (q : Seq) : (s.setSeq q).scene = s.scene := rfl
@[simp] theorem setSeq_inp (s : State) (q : Seq) : (s.setSeq q).inp = s.inp := rfl
@[simp] theorem setSeq_vessel (s : State) (q : Seq) : (s.setSeq q).vessel = s.vessel := rfl
@[simp] theorem setSeq_wl (s : State) (q : Seq) : (s.setSeq q).wl = s.wl := rfl
@[simp] theorem setSeq_panel (s : State) (q : Seq) : (s.setSeq q).panel = s.panel := rfl
@[simp] theorem setSeq_bind (s : State) (q : Seq) : (s.setSeq q).bind = s.bind := rfl
@[simp] theorem setSeq_link (s : State) (q : Seq) : (s.setSeq q).link = s.link := rfl
@[simp] theorem setSeq_dev (s : State) (q : Seq) : (s.setSeq q).dev = s.dev := rfl
@[simp] theorem setSeq_pending (s : State) (q : Seq) : (s.setSeq q).pending = s.pending := rfl

/-! ### newSeq -/

@[simp] theorem newSeq_cfg (s : State) (q : Seq) : (s.newSeq q).cfg = s.cfg := rfl
@[simp] theorem newSeq_nv (s : State) (q : Seq) : (s.newSeq q).nv = s.nv := rfl
@[simp] theorem newSeq_chan (s : State) (q : Seq) : (s.newSeq q).chan = s.chan := rfl
@[simp] theorem newSeq_beacon (s : State) (q : Seq) : (s.newSeq q).beacon = s.beacon := rfl
@[simp] theorem newSeq_budget (s : State) (q : Seq) : (s.newSeq q).budget = s.budget := rfl
@[simp] theorem newSeq_scene (s : State) (q : Seq) : (s.newSeq q).scene = s.scene := rfl
@[simp] theorem newSeq_inp (s : State) (q : Seq) : (s.newSeq q).inp = s.inp := rfl
@[simp] theorem newSeq_vessel (s : State) (q : Seq) : (s.newSeq q).vessel = s.vessel := rfl
@[simp] theorem newSeq_wl (s : State) (q : Seq) : (s.newSeq q).wl = s.wl := rfl
@[simp] theorem newSeq_panel (s : State) (q : Seq) : (s.newSeq q).panel = s.panel := rfl
@[simp] theorem newSeq_bind (s : State) (q : Seq) : (s.newSeq q).bind = s.bind := rfl
@[simp] theorem newSeq_link (s : State) (q : Seq) : (s.newSeq q).link = s.link := rfl
@[simp] theorem newSeq_dev (s : State) (q : Seq) : (s.newSeq q).dev = s.dev := rfl
@[simp] theorem newSeq_pending (s : State) (q : Seq) : (s.newSeq q).pending = s.pending := rfl
@[simp] theorem newSeq_self (s : State) (q : Seq) : (s.newSeq q).stern.seq = q := rfl
@[simp] theorem newSeq_seqCount (s : State) (q : Seq) : (s.newSeq q).stern.seqCount = s.stern.seqCount + 1 := rfl
@[simp] theorem newSeq_seqWork (s : State) (q : Seq) : (s.newSeq q).stern.seqWork = s.stern.seqWork := rfl
@[simp] theorem newSeq_pack (s : State) (q : Seq) : (s.newSeq q).stern.pack = s.stern.pack := rfl
@[simp] theorem newSeq_axis (s : State) (q : Seq) (a : AxisId) : (s.newSeq q).axis a = s.axis a := by cases a <;> rfl

/-! ### setWl -/

@[simp] theorem setWl_cfg (s : State) (w : Windlass) : (s.setWl w).cfg = s.cfg := rfl
@[simp] theorem setWl_nv (s : State) (w : Windlass) : (s.setWl w).nv = s.nv := rfl
@[simp] theorem setWl_chan (s : State) (w : Windlass) : (s.setWl w).chan = s.chan := rfl
@[simp] theorem setWl_beacon (s : State) (w : Windlass) : (s.setWl w).beacon = s.beacon := rfl
@[simp] theorem setWl_budget (s : State) (w : Windlass) : (s.setWl w).budget = s.budget := rfl
@[simp] theorem setWl_scene (s : State) (w : Windlass) : (s.setWl w).scene = s.scene := rfl
@[simp] theorem setWl_inp (s : State) (w : Windlass) : (s.setWl w).inp = s.inp := rfl
@[simp] theorem setWl_vessel (s : State) (w : Windlass) : (s.setWl w).vessel = s.vessel := rfl
@[simp] theorem setWl_stern (s : State) (w : Windlass) : (s.setWl w).stern = s.stern := rfl
@[simp] theorem setWl_panel (s : State) (w : Windlass) : (s.setWl w).panel = s.panel := rfl
@[simp] theorem setWl_bind (s : State) (w : Windlass) : (s.setWl w).bind = s.bind := rfl
@[simp] theorem setWl_link (s : State) (w : Windlass) : (s.setWl w).link = s.link := rfl
@[simp] theorem setWl_dev (s : State) (w : Windlass) : (s.setWl w).dev = s.dev := rfl
@[simp] theorem setWl_pending (s : State) (w : Windlass) : (s.setWl w).pending = s.pending := rfl

/-! ### markChanged -/

@[simp] theorem markChanged_cfg (s : State) (n : Nat) : (s.markChanged n).cfg = s.cfg := rfl
@[simp] theorem markChanged_nv (s : State) (n : Nat) : (s.markChanged n).nv = s.nv := rfl
@[simp] theorem markChanged_chan (s : State) (n : Nat) : (s.markChanged n).chan = s.chan := rfl
@[simp] theorem markChanged_beacon (s : State) (n : Nat) : (s.markChanged n).beacon = s.beacon := rfl
@[simp] theorem markChanged_budget (s : State) (n : Nat) : (s.markChanged n).budget = s.budget := rfl
@[simp] theorem markChanged_scene (s : State) (n : Nat) : (s.markChanged n).scene = s.scene := rfl
@[simp] theorem markChanged_inp (s : State) (n : Nat) : (s.markChanged n).inp = s.inp := rfl
@[simp] theorem markChanged_vessel (s : State) (n : Nat) : (s.markChanged n).vessel = s.vessel := rfl
@[simp] theorem markChanged_stern (s : State) (n : Nat) : (s.markChanged n).stern = s.stern := rfl
@[simp] theorem markChanged_wl (s : State) (n : Nat) : (s.markChanged n).wl = s.wl := rfl
@[simp] theorem markChanged_panel (s : State) (n : Nat) : (s.markChanged n).panel = s.panel := rfl
@[simp] theorem markChanged_bind (s : State) (n : Nat) : (s.markChanged n).bind = s.bind := rfl
@[simp] theorem markChanged_link (s : State) (n : Nat) : (s.markChanged n).link = s.link := rfl
@[simp] theorem markChanged_pending (s : State) (n : Nat) : (s.markChanged n).pending = s.pending := rfl

/-! ### markIf -/

@[simp] theorem markIf_cfg (s : State) (b : Bool) (n : Nat) : (s.markIf b n).cfg = s.cfg := rfl
@[simp] theorem markIf_nv (s : State) (b : Bool) (n : Nat) : (s.markIf b n).nv = s.nv := rfl
@[simp] theorem markIf_chan (s : State) (b : Bool) (n : Nat) : (s.markIf b n).chan = s.chan := rfl
@[simp] theorem markIf_beacon (s : State) (b : Bool) (n : Nat) : (s.markIf b n).beacon = s.beacon := rfl
@[simp] theorem markIf_budget (s : State) (b : Bool) (n : Nat) : (s.markIf b n).budget = s.budget := rfl
@[simp] theorem markIf_scene (s : State) (b : Bool) (n : Nat) : (s.markIf b n).scene = s.scene := rfl
@[simp] theorem markIf_inp (s : State) (b : Bool) (n : Nat) : (s.markIf b n).inp = s.inp := rfl
@[simp] theorem markIf_vessel (s : State) (b : Bool) (n : Nat) : (s.markIf b n).vessel = s.vessel := rfl
@[simp] theorem markIf_stern (s : State) (b : Bool) (n : Nat) : (s.markIf b n).stern = s.stern := rfl
@[simp] theorem markIf_wl (s : State) (b : Bool) (n : Nat) : (s.markIf b n).wl = s.wl := rfl
@[simp] theorem markIf_panel (s : State) (b : Bool) (n : Nat) : (s.markIf b n).panel = s.panel := rfl
@[simp] theorem markIf_bind (s : State) (b : Bool) (n : Nat) : (s.markIf b n).bind = s.bind := rfl
@[simp] theorem markIf_link (s : State) (b : Bool) (n : Nat) : (s.markIf b n).link = s.link := rfl
@[simp] theorem markIf_pending (s : State) (b : Bool) (n : Nat) : (s.markIf b n).pending = s.pending := rfl

/-! ### setRes -/

@[simp] theorem setRes_cfg (s : State) (h : ResHolder) (v : Option Nat) : (s.setRes h v).cfg = s.cfg := rfl
@[simp] theorem setRes_nv (s : State) (h : ResHolder) (v : Option Nat) : (s.setRes h v).nv = s.nv := rfl
@[simp] theorem setRes_chan (s : State) (h : ResHolder) (v : Option Nat) : (s.setRes h v).chan = s.chan := rfl
@[simp] theorem setRes_beacon (s : State) (h : ResHolder) (v : Option Nat) : (s.setRes h v).beacon = s.beacon := rfl
@[simp] theorem setRes_scene (s : State) (h : ResHolder) (v : Option Nat) : (s.setRes h v).scene = s.scene := rfl
@[simp] theorem setRes_inp (s : State) (h : ResHolder) (v : Option Nat) : (s.setRes h v).inp = s.inp := rfl
@[simp] theorem setRes_vessel (s : State) (h : ResHolder) (v : Option Nat) : (s.setRes h v).vessel = s.vessel := rfl
@[simp] theorem setRes_stern (s : State) (h : ResHolder) (v : Option Nat) : (s.setRes h v).stern = s.stern := rfl
@[simp] theorem setRes_wl (s : State) (h : ResHolder) (v : Option Nat) : (s.setRes h v).wl = s.wl := rfl
@[simp] theorem setRes_panel (s : State) (h : ResHolder) (v : Option Nat) : (s.setRes h v).panel = s.panel := rfl
@[simp] theorem setRes_bind (s : State) (h : ResHolder) (v : Option Nat) : (s.setRes h v).bind = s.bind := rfl
@[simp] theorem setRes_link (s : State) (h : ResHolder) (v : Option Nat) : (s.setRes h v).link = s.link := rfl
@[simp] theorem setRes_dev (s : State) (h : ResHolder) (v : Option Nat) : (s.setRes h v).dev = s.dev := rfl
@[simp] theorem setRes_pending (s : State) (h : ResHolder) (v : Option Nat) : (s.setRes h v).pending = s.pending := rfl

/-! ### setSupply -/

@[simp] theorem setSupply_cfg (s : State) (st : SupplyState) : (s.setSupply st).cfg = s.cfg := rfl
@[simp] theorem setSupply_nv (s : State) (st : SupplyState) : (s.setSupply st).nv = s.nv := rfl
@[simp] theorem setSupply_chan (s : State) (st : SupplyState) : (s.setSupply st).chan = s.chan := rfl
@[simp] theorem setSupply_beacon (s : State) (st : SupplyState) : (s.setSupply st).beacon = s.beacon := rfl
@[simp] theorem setSupply_scene (s : State) (st : SupplyState) : (s.setSupply st).scene = s.scene := rfl
@[simp] theorem setSupply_inp (s : State) (st : SupplyState) : (s.setSupply st).inp = s.inp := rfl
@[simp] theorem setSupply_vessel (s : State) (st : SupplyState) : (s.setSupply st).vessel = s.vessel := rfl
@[simp] theorem setSupply_stern (s : State) (st : SupplyState) : (s.setSupply st).stern = s.stern := rfl
@[simp] theorem setSupply_wl (s : State) (st : SupplyState) : (s.setSupply st).wl = s.wl := rfl
@[simp] theorem setSupply_panel (s : State) (st : SupplyState) : (s.setSupply st).panel = s.panel := rfl
@[simp] theorem setSupply_bind (s : State) (st : SupplyState) : (s.setSupply st).bind = s.bind := rfl
@[simp] theorem setSupply_link (s : State) (st : SupplyState) : (s.setSupply st).link = s.link := rfl
@[simp] theorem setSupply_dev (s : State) (st : SupplyState) : (s.setSupply st).dev = s.dev := rfl
@[simp] theorem setSupply_pending (s : State) (st : SupplyState) : (s.setSupply st).pending = s.pending := rfl

/-! ### setAssembly -/

@[simp] theorem setAssembly_cfg (s : State) (a : Option Assembly) : (s.setAssembly a).cfg = s.cfg := rfl
@[simp] theorem setAssembly_nv (s : State) (a : Option Assembly) : (s.setAssembly a).nv = s.nv := rfl
@[simp] theorem setAssembly_chan (s : State) (a : Option Assembly) : (s.setAssembly a).chan = s.chan := rfl
@[simp] theorem setAssembly_beacon (s : State) (a : Option Assembly) : (s.setAssembly a).beacon = s.beacon := rfl
@[simp] theorem setAssembly_budget (s : State) (a : Option Assembly) : (s.setAssembly a).budget = s.budget := rfl
@[simp] theorem setAssembly_inp (s : State) (a : Option Assembly) : (s.setAssembly a).inp = s.inp := rfl
@[simp] theorem setAssembly_vessel (s : State) (a : Option Assembly) : (s.setAssembly a).vessel = s.vessel := rfl
@[simp] theorem setAssembly_stern (s : State) (a : Option Assembly) : (s.setAssembly a).stern = s.stern := rfl
@[simp] theorem setAssembly_wl (s : State) (a : Option Assembly) : (s.setAssembly a).wl = s.wl := rfl
@[simp] theorem setAssembly_panel (s : State) (a : Option Assembly) : (s.setAssembly a).panel = s.panel := rfl
@[simp] theorem setAssembly_bind (s : State) (a : Option Assembly) : (s.setAssembly a).bind = s.bind := rfl
@[simp] theorem setAssembly_link (s : State) (a : Option Assembly) : (s.setAssembly a).link = s.link := rfl
@[simp] theorem setAssembly_dev (s : State) (a : Option Assembly) : (s.setAssembly a).dev = s.dev := rfl
@[simp] theorem setAssembly_pending (s : State) (a : Option Assembly) : (s.setAssembly a).pending = s.pending := rfl

/-! ### clearIdleWork -/

@[simp] theorem clearIdleWork_cfg (s : State) : (s.clearIdleWork).cfg = s.cfg := rfl
@[simp] theorem clearIdleWork_nv (s : State) : (s.clearIdleWork).nv = s.nv := rfl
@[simp] theorem clearIdleWork_chan (s : State) : (s.clearIdleWork).chan = s.chan := rfl
@[simp] theorem clearIdleWork_beacon (s : State) : (s.clearIdleWork).beacon = s.beacon := rfl
@[simp] theorem clearIdleWork_budget (s : State) : (s.clearIdleWork).budget = s.budget := rfl
@[simp] theorem clearIdleWork_inp (s : State) : (s.clearIdleWork).inp = s.inp := rfl
@[simp] theorem clearIdleWork_vessel (s : State) : (s.clearIdleWork).vessel = s.vessel := rfl
@[simp] theorem clearIdleWork_stern (s : State) : (s.clearIdleWork).stern = s.stern := rfl
@[simp] theorem clearIdleWork_wl (s : State) : (s.clearIdleWork).wl = s.wl := rfl
@[simp] theorem clearIdleWork_panel (s : State) : (s.clearIdleWork).panel = s.panel := rfl
@[simp] theorem clearIdleWork_bind (s : State) : (s.clearIdleWork).bind = s.bind := rfl
@[simp] theorem clearIdleWork_link (s : State) : (s.clearIdleWork).link = s.link := rfl
@[simp] theorem clearIdleWork_dev (s : State) : (s.clearIdleWork).dev = s.dev := rfl
@[simp] theorem clearIdleWork_pending (s : State) : (s.clearIdleWork).pending = s.pending := rfl

/-! ### setRx -/

@[simp] theorem setRx_cfg (s : State) (r : Receiver) : (s.setRx r).cfg = s.cfg := rfl
@[simp] theorem setRx_nv (s : State) (r : Receiver) : (s.setRx r).nv = s.nv := rfl
@[simp] theorem setRx_chan (s : State) (r : Receiver) : (s.setRx r).chan = s.chan := rfl
@[simp] theorem setRx_beacon (s : State) (r : Receiver) : (s.setRx r).beacon = s.beacon := rfl
@[simp] theorem setRx_budget (s : State) (r : Receiver) : (s.setRx r).budget = s.budget := rfl
@[simp] theorem setRx_scene (s : State) (r : Receiver) : (s.setRx r).scene = s.scene := rfl
@[simp] theorem setRx_inp (s : State) (r : Receiver) : (s.setRx r).inp = s.inp := rfl
@[simp] theorem setRx_vessel (s : State) (r : Receiver) : (s.setRx r).vessel = s.vessel := rfl
@[simp] theorem setRx_stern (s : State) (r : Receiver) : (s.setRx r).stern = s.stern := rfl
@[simp] theorem setRx_wl (s : State) (r : Receiver) : (s.setRx r).wl = s.wl := rfl
@[simp] theorem setRx_panel (s : State) (r : Receiver) : (s.setRx r).panel = s.panel := rfl
@[simp] theorem setRx_bind (s : State) (r : Receiver) : (s.setRx r).bind = s.bind := rfl
@[simp] theorem setRx_dev (s : State) (r : Receiver) : (s.setRx r).dev = s.dev := rfl
@[simp] theorem setRx_pending (s : State) (r : Receiver) : (s.setRx r).pending = s.pending := rfl

/-! ### setAxis -/

@[simp] theorem setAxis_cfg (s : State) (a : AxisId) (x : Axis) : (s.setAxis a x).cfg = s.cfg := by cases a <;> rfl
@[simp] theorem setAxis_nv (s : State) (a : AxisId) (x : Axis) : (s.setAxis a x).nv = s.nv := by cases a <;> rfl
@[simp] theorem setAxis_chan (s : State) (a : AxisId) (x : Axis) : (s.setAxis a x).chan = s.chan := by cases a <;> rfl
@[simp] theorem setAxis_beacon (s : State) (a : AxisId) (x : Axis) : (s.setAxis a x).beacon = s.beacon := by cases a <;> rfl
@[simp] theorem setAxis_budget (s : State) (a : AxisId) (x : Axis) : (s.setAxis a x).budget = s.budget := by cases a <;> rfl
@[simp] theorem setAxis_scene (s : State) (a : AxisId) (x : Axis) : (s.setAxis a x).scene = s.scene := by cases a <;> rfl
@[simp] theorem setAxis_inp (s : State) (a : AxisId) (x : Axis) : (s.setAxis a x).inp = s.inp := by cases a <;> rfl
@[simp] theorem setAxis_vessel (s : State) (a : AxisId) (x : Axis) : (s.setAxis a x).vessel = s.vessel := by cases a <;> rfl
@[simp] theorem setAxis_wl (s : State) (a : AxisId) (x : Axis) : (s.setAxis a x).wl = s.wl := by cases a <;> rfl
@[simp] theorem setAxis_panel (s : State) (a : AxisId) (x : Axis) : (s.setAxis a x).panel = s.panel := by cases a <;> rfl
@[simp] theorem setAxis_bind (s : State) (a : AxisId) (x : Axis) : (s.setAxis a x).bind = s.bind := by cases a <;> rfl
@[simp] theorem setAxis_link (s : State) (a : AxisId) (x : Axis) : (s.setAxis a x).link = s.link := by cases a <;> rfl
@[simp] theorem setAxis_dev (s : State) (a : AxisId) (x : Axis) : (s.setAxis a x).dev = s.dev := by cases a <;> rfl
@[simp] theorem setAxis_pending (s : State) (a : AxisId) (x : Axis) : (s.setAxis a x).pending = s.pending := by cases a <;> rfl
@[simp] theorem modAxis_cfg (s : State) (a : AxisId) (f : Axis → Axis) : (s.modAxis a f).cfg = s.cfg := by
  cases a <;> rfl
@[simp] theorem modAxis_nv (s : State) (a : AxisId) (f : Axis → Axis) : (s.modAxis a f).nv = s.nv := by
  cases a <;> rfl
@[simp] theorem modAxis_chan (s : State) (a : AxisId) (f : Axis → Axis) : (s.modAxis a f).chan = s.chan := by
  cases a <;> rfl
@[simp] theorem modAxis_beacon (s : State) (a : AxisId) (f : Axis → Axis) : (s.modAxis a f).beacon = s.beacon := by
  cases a <;> rfl
@[simp] theorem modAxis_budget (s : State) (a : AxisId) (f : Axis → Axis) : (s.modAxis a f).budget = s.budget := by
  cases a <;> rfl
@[simp] theorem modAxis_scene (s : State) (a : AxisId) (f : Axis → Axis) : (s.modAxis a f).scene = s.scene := by
  cases a <;> rfl
@[simp] theorem modAxis_inp (s : State) (a : AxisId) (f : Axis → Axis) : (s.modAxis a f).inp = s.inp := by
  cases a <;> rfl
@[simp] theorem modAxis_vessel (s : State) (a : AxisId) (f : Axis → Axis) : (s.modAxis a f).vessel = s.vessel := by
  cases a <;> rfl
@[simp] theorem modAxis_wl (s : State) (a : AxisId) (f : Axis → Axis) : (s.modAxis a f).wl = s.wl := by
  cases a <;> rfl
@[simp] theorem modAxis_panel (s : State) (a : AxisId) (f : Axis → Axis) : (s.modAxis a f).panel = s.panel := by
  cases a <;> rfl
@[simp] theorem modAxis_bind (s : State) (a : AxisId) (f : Axis → Axis) : (s.modAxis a f).bind = s.bind := by
  cases a <;> rfl
@[simp] theorem modAxis_link (s : State) (a : AxisId) (f : Axis → Axis) : (s.modAxis a f).link = s.link := by
  cases a <;> rfl
@[simp] theorem modAxis_dev (s : State) (a : AxisId) (f : Axis → Axis) : (s.modAxis a f).dev = s.dev := by
  cases a <;> rfl
@[simp] theorem modAxis_pending (s : State) (a : AxisId) (f : Axis → Axis) : (s.modAxis a f).pending = s.pending := by
  cases a <;> rfl

/-! ### notice: the queue and the overflow flag alone -/

@[simp] theorem notice_cfg (n : Note) (a : Nat) (v : List Int) (s : State) : (notice n a v s).cfg = s.cfg := by
  unfold notice; (repeat (any_goals split)) <;> rfl
@[simp] theorem notice_nv (n : Note) (a : Nat) (v : List Int) (s : State) : (notice n a v s).nv = s.nv := by
  unfold notice; (repeat (any_goals split)) <;> rfl
@[simp] theorem notice_chan (n : Note) (a : Nat) (v : List Int) (s : State) : (notice n a v s).chan = s.chan := by
  unfold notice; (repeat (any_goals split)) <;> rfl
@[simp] theorem notice_beacon (n : Note) (a : Nat) (v : List Int) (s : State) : (notice n a v s).beacon = s.beacon := by
  unfold notice; (repeat (any_goals split)) <;> rfl
@[simp] theorem notice_budget (n : Note) (a : Nat) (v : List Int) (s : State) : (notice n a v s).budget = s.budget := by
  unfold notice; (repeat (any_goals split)) <;> rfl
@[simp] theorem notice_scene (n : Note) (a : Nat) (v : List Int) (s : State) : (notice n a v s).scene = s.scene := by
  unfold notice; (repeat (any_goals split)) <;> rfl
@[simp] theorem notice_inp (n : Note) (a : Nat) (v : List Int) (s : State) : (notice n a v s).inp = s.inp := by
  unfold notice; (repeat (any_goals split)) <;> rfl
@[simp] theorem notice_vessel (n : Note) (a : Nat) (v : List Int) (s : State) : (notice n a v s).vessel = s.vessel := by
  unfold notice; (repeat (any_goals split)) <;> rfl
@[simp] theorem notice_stern (n : Note) (a : Nat) (v : List Int) (s : State) : (notice n a v s).stern = s.stern := by
  unfold notice; (repeat (any_goals split)) <;> rfl
@[simp] theorem notice_wl (n : Note) (a : Nat) (v : List Int) (s : State) : (notice n a v s).wl = s.wl := by
  unfold notice; (repeat (any_goals split)) <;> rfl
@[simp] theorem notice_panel (n : Note) (a : Nat) (v : List Int) (s : State) : (notice n a v s).panel = s.panel := by
  unfold notice; (repeat (any_goals split)) <;> rfl
@[simp] theorem notice_bind (n : Note) (a : Nat) (v : List Int) (s : State) : (notice n a v s).bind = s.bind := by
  unfold notice; (repeat (any_goals split)) <;> rfl
@[simp] theorem notice_dev (n : Note) (a : Nat) (v : List Int) (s : State) : (notice n a v s).dev = s.dev := by
  unfold notice; (repeat (any_goals split)) <;> rfl
@[simp] theorem notice_pending (n : Note) (a : Nat) (v : List Int) (s : State) : (notice n a v s).pending = s.pending := by
  unfold notice; (repeat (any_goals split)) <;> rfl
@[simp] theorem notice_link_device (n : Note) (a : Nat) (v : List Int) (s : State) :
    (notice n a v s).link.device = s.link.device := by unfold notice; (repeat (any_goals split)) <;> rfl
@[simp] theorem notice_link_rx (n : Note) (a : Nat) (v : List Int) (s : State) :
    (notice n a v s).link.rx = s.link.rx := by unfold notice; (repeat (any_goals split)) <;> rfl
@[simp] theorem notice_link_requests (n : Note) (a : Nat) (v : List Int) (s : State) :
    (notice n a v s).link.requests = s.link.requests := by unfold notice; (repeat (any_goals split)) <;> rfl
@[simp] theorem notice_link_replies (n : Note) (a : Nat) (v : List Int) (s : State) :
    (notice n a v s).link.replies = s.link.replies := by unfold notice; (repeat (any_goals split)) <;> rfl
@[simp] theorem notice_link_sending (n : Note) (a : Nat) (v : List Int) (s : State) :
    (notice n a v s).link.sending = s.link.sending := by unfold notice; (repeat (any_goals split)) <;> rfl
@[simp] theorem notice_link_enabled (n : Note) (a : Nat) (v : List Int) (s : State) :
    (notice n a v s).link.enabled = s.link.enabled := by unfold notice; (repeat (any_goals split)) <;> rfl
@[simp] theorem notice_link_supervision (n : Note) (a : Nat) (v : List Int) (s : State) :
    (notice n a v s).link.supervision = s.link.supervision := by unfold notice; (repeat (any_goals split)) <;> rfl
@[simp] theorem notice_link_aloneMs (n : Note) (a : Nat) (v : List Int) (s : State) :
    (notice n a v s).link.aloneMs = s.link.aloneMs := by unfold notice; (repeat (any_goals split)) <;> rfl
@[simp] theorem notice_link_wasLinked (n : Note) (a : Nat) (v : List Int) (s : State) :
    (notice n a v s).link.wasLinked = s.link.wasLinked := by unfold notice; (repeat (any_goals split)) <;> rfl
@[simp] theorem notice_link_resetReply (n : Note) (a : Nat) (v : List Int) (s : State) :
    (notice n a v s).link.resetReply = s.link.resetReply := by unfold notice; (repeat (any_goals split)) <;> rfl

/-! ### Reading back what was written -/

@[simp] theorem setChan_self (s : State) (i : Fin 24) (c : Channel) : (s.setChan i c).chan[i] = c := by
  simp [State.setChan]
@[simp] theorem setPlayer_self (s : State) (p : Fin 4) (x : Player) : (s.setPlayer p x).player p = x := by
  simp [State.setPlayer, State.player]
@[simp] theorem setDi_self (s : State) (n : Fin 16) (d : DiRt) : (s.setDi n d).diRt n = d := by
  simp [State.setDi, State.diRt]
@[simp] theorem setAi_self (s : State) (n : Fin 4) (d : AiRt) : (s.setAi n d).aiRt n = d := by
  simp [State.setAi, State.aiRt]
@[simp] theorem setEntry_self (s : State) (p : Fin 32) (e : Panel) : (s.setEntry p e).entry p = e := by
  simp [State.setEntry, State.entry]
@[simp] theorem setAxis_self (s : State) (a : AxisId) (x : Axis) : (s.setAxis a x).axis a = x := by
  cases a <;> rfl
@[simp] theorem setAxis_other (s : State) (a : AxisId) (x : Axis) :
    (s.setAxis a x).axis (otherAxis a) = s.axis (otherAxis a) := by cases a <;> rfl
@[simp] theorem modAxis_self (s : State) (a : AxisId) (f : Axis → Axis) : (s.modAxis a f).axis a = f (s.axis a) := by
  cases a <;> rfl
@[simp] theorem modAxis_other (s : State) (a : AxisId) (f : Axis → Axis) :
    (s.modAxis a f).axis (otherAxis a) = s.axis (otherAxis a) := by cases a <;> rfl
@[simp] theorem setAxis_pack (s : State) (a : AxisId) (x : Axis) : (s.setAxis a x).stern.pack = s.stern.pack := by
  cases a <;> rfl
@[simp] theorem setAxis_seq (s : State) (a : AxisId) (x : Axis) : (s.setAxis a x).stern.seq = s.stern.seq := by
  cases a <;> rfl
@[simp] theorem setWl_self (s : State) (w : Windlass) : (s.setWl w).wl = w := rfl
@[simp] theorem setPack_self (s : State) (p : Pack) : (s.setPack p).stern.pack = p := rfl
@[simp] theorem setPack_axis (s : State) (p : Pack) (a : AxisId) : (s.setPack p).axis a = s.axis a := by cases a <;> rfl
@[simp] theorem setSeq_self (s : State) (q : Seq) : (s.setSeq q).stern.seq = q := rfl
@[simp] theorem setSeq_axis (s : State) (q : Seq) (a : AxisId) : (s.setSeq q).axis a = s.axis a := by cases a <;> rfl
@[simp] theorem setSeq_pack (s : State) (q : Seq) : (s.setSeq q).stern.pack = s.stern.pack := rfl
@[simp] theorem setPack_seq (s : State) (p : Pack) : (s.setPack p).stern.seq = s.stern.seq := rfl
@[simp] theorem notice_axis (n : Note) (x : Nat) (v : List Int) (s : State) (a : AxisId) :
    (notice n x v s).axis a = s.axis a := by cases a <;> simp [State.axis]

/-- A table read back. -/
@[simp] theorem tab_get {α : Type} {n : Nat} (f : Fin n → α) (i : Fin n) : (tab n f)[i] = f i := by
  simp [tab]
@[simp] theorem tab_getElem {α : Type} {n : Nat} (f : Fin n → α) (i : Nat) (h : i < n) :
    (tab n f)[i] = f ⟨i, h⟩ := by simp [tab]

end Sys2Proof.Machine
end

