-- ==== Sys2Proof/Laws/Still.lean ====
section
/-! SUPPORT. What no block changes on its own account: the configuration, the inputs, the clocks, the device
state, the link but for its notices. One lemma per operation says that it leaves this part, so that a proof
about it never unfolds the block. -/

namespace Sys2Proof.Machine

/-- The part of a state that only requests, inputs and time change: the rest is put to one fixed value. -/
def State.still (s : State) : State :=
  { s with
    nv := { s.nv with cellA := none, cellB := none }
    chan := Vector.replicate 24 {}
    beacon := {}
    budget := { supply := s.budget.supply, dwell := s.budget.dwell, held := s.budget.held }
    scene := { assembly := s.scene.assembly }
    vessel := { s.vessel with anchored := false }
    stern := {}
    wl := {}
    panel := { s.panel with fast := [], fastNext := 0,
                            panels := s.panel.panels.map fun e => { e with holdings := [] } }
    bind := { overrides := s.bind.overrides, flashes := s.bind.flashes }
    link := { s.link with queue := [], overflow := false }
    dev := { s.dev with cellWrite := none } }

/-! ### What follows from an equal still part -/

section Projections
variable {s t : State} (h : t.still = s.still)
include h
theorem still_cfg : t.cfg = s.cfg := by simpa [State.still] using congrArg State.cfg h
theorem still_inp : t.inp = s.inp := by simpa [State.still] using congrArg State.inp h
theorem still_pending : t.pending = s.pending := by simpa [State.still] using congrArg State.pending h
theorem still_uptime : t.dev.uptime = s.dev.uptime := (congrArg (fun x : State => x.dev.uptime) h :)
theorem still_changed : t.dev.changed = s.dev.changed := (congrArg (fun x : State => x.dev.changed) h :)
theorem still_commit : t.dev.commit = s.dev.commit := (congrArg (fun x : State => x.dev.commit) h :)
theorem still_cause : t.dev.cause = s.dev.cause := (congrArg (fun x : State => x.dev.cause) h :)
theorem still_defaulted : t.dev.defaulted = s.dev.defaulted := (congrArg (fun x : State => x.dev.defaulted) h :)
theorem still_markFound : t.dev.markFound = s.dev.markFound := (congrArg (fun x : State => x.dev.markFound) h :)
theorem still_races : t.dev.races = s.dev.races := (congrArg (fun x : State => x.dev.races) h :)
theorem still_supply : t.budget.supply = s.budget.supply := (congrArg (fun x : State => x.budget.supply) h :)
theorem still_dwell : t.budget.dwell = s.budget.dwell := (congrArg (fun x : State => x.budget.dwell) h :)
theorem still_held : t.budget.held = s.budget.held := (congrArg (fun x : State => x.budget.held) h :)
theorem still_assembly : t.scene.assembly = s.scene.assembly :=
  (congrArg (fun x : State => x.scene.assembly) h :)
theorem still_speed : t.vessel.speed = s.vessel.speed := (congrArg (fun x : State => x.vessel.speed) h :)
theorem still_source : t.vessel.source = s.vessel.source := (congrArg (fun x : State => x.vessel.source) h :)
theorem still_fresh : t.vessel.fresh = s.vessel.fresh := (congrArg (fun x : State => x.vessel.fresh) h :)
theorem still_active : t.vessel.active = s.vessel.active := (congrArg (fun x : State => x.vessel.active) h :)
theorem still_device : t.link.device = s.link.device := (congrArg (fun x : State => x.link.device) h :)
theorem still_rx : t.link.rx = s.link.rx := (congrArg (fun x : State => x.link.rx) h :)
theorem still_requests : t.link.requests = s.link.requests := (congrArg (fun x : State => x.link.requests) h :)
theorem still_replies : t.link.replies = s.link.replies := (congrArg (fun x : State => x.link.replies) h :)
theorem still_sending : t.link.sending = s.link.sending := (congrArg (fun x : State => x.link.sending) h :)
theorem still_enabled : t.link.enabled = s.link.enabled := (congrArg (fun x : State => x.link.enabled) h :)
theorem still_supervision : t.link.supervision = s.link.supervision :=
  (congrArg (fun x : State => x.link.supervision) h :)
theorem still_resetReply : t.link.resetReply = s.link.resetReply :=
  (congrArg (fun x : State => x.link.resetReply) h :)
theorem still_overrides : t.bind.overrides = s.bind.overrides := (congrArg (fun x : State => x.bind.overrides) h :)
theorem still_flashes : t.bind.flashes = s.bind.flashes := (congrArg (fun x : State => x.bind.flashes) h :)
theorem still_call : t.panel.call = s.panel.call := (congrArg (fun x : State => x.panel.call) h :)
theorem still_starting : t.starting = s.starting := by simp [State.starting, still_device h]
end Projections

/-! ### Writes -/

@[simp] theorem notice_still (n : Note) (a : Nat) (v : List Int) (s : State) :
    (notice n a v s).still = s.still := by unfold notice; (repeat (any_goals split)) <;> rfl
@[simp] theorem setChan_still (s : State) (i : Fin 24) (c : Channel) : (s.setChan i c).still = s.still := rfl
@[simp] theorem modChan_still (s : State) (i : Fin 24) (f : Channel → Channel) :
    (s.modChan i f).still = s.still := rfl
@[simp] theorem setPlayer_still (s : State) (p : Fin 4) (x : Player) : (s.setPlayer p x).still = s.still := rfl
@[simp] theorem modPlayer_still (s : State) (p : Fin 4) (f : Player → Player) :
    (s.modPlayer p f).still = s.still := rfl
@[simp] theorem clearIdleWork_still (s : State) : s.clearIdleWork.still = s.still := rfl
@[simp] theorem setRes_still (s : State) (h : ResHolder) (v : Option Nat) : (s.setRes h v).still = s.still := rfl
@[simp] theorem setAxis_still (s : State) (a : AxisId) (x : Axis) : (s.setAxis a x).still = s.still := by
  cases a <;> rfl
@[simp] theorem modAxis_still (s : State) (a : AxisId) (f : Axis → Axis) : (s.modAxis a f).still = s.still := by
  cases a <;> rfl
@[simp] theorem setPack_still (s : State) (p : Pack) : (s.setPack p).still = s.still := rfl
@[simp] theorem setSeq_still (s : State) (q : Seq) : (s.setSeq q).still = s.still := rfl
@[simp] theorem setWl_still (s : State) (w : Windlass) : (s.setWl w).still = s.still := rfl

/-- Writing an entry of the panel table that differs in its holdings alone. -/
theorem setEntry_still (s : State) (p : Fin 32) (l : List Holding) :
    (s.setEntry p { s.entry p with holdings := l }).still = s.still := by
  have : (s.panel.panels.set p { s.entry p with holdings := l }).map
      (fun e => { e with holdings := [] }) = s.panel.panels.map (fun e => { e with holdings := [] }) := by
    ext i hi
    simp only [Vector.getElem_map, Vector.getElem_set]
    split
    · next h => subst h; rfl
    · rfl
  simp only [State.still, State.setEntry, this]

/-- A fold of operations that leave the still part leaves it. -/
theorem foldl_still {α : Type} (f : State → α → State) (h : ∀ s a, (f s a).still = s.still) (l : List α)
    (s : State) : (l.foldl f s).still = s.still := by
  induction l generalizing s with
  | nil => rfl
  | cons a l ih => rw [List.foldl_cons, ih, h]

/-! ### Budget -/

@[simp] theorem evaluate_still (s : State) : (evaluate s).still = s.still := by
  unfold evaluate settleConditions applyGrants
  split
  · rfl
  · simp only []
    split <;> (try rw [notice_still]) <;> split <;> (try rw [notice_still]) <;> rfl

@[simp] theorem freeRes_still (h : ResHolder) (s : State) : (freeRes h s).still = s.still := by
  unfold freeRes; split <;> simp

theorem requestNew_still {h : ResHolder} {n : Nat} {s t : State} (e : requestNew h n s = .ok t) : t.still = s.still := by
  unfold requestNew at e
  repeat (any_goals split at e)
  all_goals first
    | (injection e with e; subst e; simp)
    | cases e

theorem reserveFor_still {h : ResHolder} {n : Nat} {s t : State} (e : reserveFor h n s = .ok t) : t.still = s.still := by
  unfold reserveFor at e
  repeat (any_goals split at e)
  all_goals first
    | exact requestNew_still e
    | (injection e with e; subst e; simp)

/-! ### Channels -/

@[simp] theorem startDeadTime_still (i : Fin 24) (s : State) : (startDeadTime i s).still = s.still := by
  unfold startDeadTime; split <;> simp
@[simp] theorem levelTo_still (i : Fin 24) (l : Nat) (s : State) : (levelTo i l s).still = s.still := by
  unfold levelTo; simp only []; (repeat (any_goals split)) <;> simp
@[simp] theorem excludePartner_still (i : Fin 24) (s : State) : (excludePartner i s).still = s.still := by
  unfold excludePartner; (repeat (any_goals split)) <;> simp
@[simp] theorem setLevel_still (i : Fin 24) (l : Nat) (s : State) : (setLevel i l s).still = s.still := by
  unfold setLevel; simp only []; (repeat (any_goals split)) <;> simp
@[simp] theorem endFade_still (i : Fin 24) (s : State) : (endFade i s).still = s.still := rfl
@[simp] theorem startFade_still (i : Fin 24) (l f : Nat) (s : State) : (startFade i l f s).1.still = s.still := by
  unfold startFade; simp only []; (repeat (any_goals split)) <;> simp
@[simp] theorem stepFade_still (i : Fin 24) (f : Fade) (s : State) : (stepFade i f s).1.still = s.still := by
  unfold stepFade; simp
@[simp] theorem takeChannel_still (i : Fin 24) (o : Owner) (s : State) :
    (takeChannel i o s).1.still = s.still := by
  unfold takeChannel; simp only []; split <;> simp
@[simp] theorem trip_still (i : Fin 24) (s : State) : (trip i s).still = s.still := by
  unfold trip; simp only []; (repeat (any_goals split)) <;> simp
@[simp] theorem driveBeacon_still (s : State) : (driveBeacon s).still = s.still := by
  unfold driveBeacon; (repeat (any_goals split)) <;> simp
@[simp] theorem beaconUpdate_still (s : State) : (beaconUpdate s).still = s.still := by
  unfold beaconUpdate; (repeat (any_goals split)) <;> (try simp) <;> rfl

/-! ### Scenes and players -/

@[simp] theorem giveUp_still (s : State) (n : Nat) : (giveUp s n).still = s.still := by
  unfold giveUp; split <;> simp
@[simp] theorem toIdle_still (p : Fin 4) (o : PlayerOutcome) (s : State) : (toIdle p o s).still = s.still := by
  have h : (((s.player p).active).foldl giveUp s).still = s.still := foldl_still _ giveUp_still _ _
  unfold toIdle
  rw [← h, ← setPlayer_still (((s.player p).active).foldl giveUp s) p
      { s.player p with state := .idle, scene := none, endFade := false, active := [], waiting := [],
                        dwell := none, outcome := o }]
  exact notice_still ..
@[simp] theorem complete_still (p : Fin 4) (s : State) : (complete p s).still = s.still := by
  unfold complete; simp only []; (repeat (any_goals split)) <;> simp
@[simp] theorem judgePlayer_still (p : Fin 4) (s : State) : (judgePlayer p s).still = s.still := by
  unfold judgePlayer; split <;> simp
@[simp] theorem fadeEnded_still (p : Fin 4) (n : Nat) (s : State) : (fadeEnded p n s).still = s.still := by
  unfold fadeEnded; simp only []; split <;> simp
@[simp] theorem loseChannel_still (p : Fin 4) (n : Nat) (s : State) : (loseChannel p n s).still = s.still := by
  unfold loseChannel; simp only []; (repeat (any_goals split)) <;> simp
@[simp] theorem takeFrom_still (i : Fin 24) (o : Owner) (s : State) : (takeFrom i o s).still = s.still := by
  unfold takeFrom; simp only []; split <;> simp
@[simp] theorem setEntryFade_still (p : Fin 4) (f : Nat) (s : State) (e : Nat × Nat) :
    (setEntryFade p f s e).still = s.still := by
  unfold setEntryFade; simp only []; (repeat (any_goals split)) <;> simp
@[simp] theorem startEntry_still (p : Fin 4) (f : Nat) (s : State) (e : Nat × Nat) :
    (startEntry p f s e).still = s.still := by
  unfold startEntry; simp only []; (repeat (any_goals split)) <;> simp
@[simp] theorem startOn_still (p : Fin 4) (n : Nat) (src : TrigSource) (s : State) :
    (startOn p n src s).still = s.still := by
  unfold startOn
  split
  · simp
  · simp only []
    split <;> simp [foldl_still _ (startEntry_still _ _)]
@[simp] theorem fadeRow_still (p : Fin 4) (f : Nat) (l : Nat → Nat) (s : State) :
    (fadeRow p f l s).still = s.still := by
  unfold fadeRow; simp [foldl_still _ (setEntryFade_still _ _)]
@[simp] theorem applyEnd_still (p : Fin 4) (r : SceneRec) (s : State) : (applyEnd p r s).still = s.still := by
  unfold applyEnd; split <;> simp
@[simp] theorem leaveDwell_still (p : Fin 4) (r : SceneRec) (s : State) : (leaveDwell p r s).still = s.still := by
  unfold leaveDwell; simp only []; (repeat (any_goals split)) <;> simp
@[simp] theorem dwellEnds_still (p : Fin 4) (s : State) : (dwellEnds p s).still = s.still := by
  unfold dwellEnds; (repeat (any_goals split)) <;> simp
@[simp] theorem abortWith_still (t : Option (Nat × TrigSource)) (p : Fin 4) (s : State) :
    (abortWith t p s).still = s.still := by
  unfold abortWith; split <;> simp
@[simp] theorem stopAbort_still (p : Fin 4) (s : State) : (stopAbort p s).still = s.still := by
  unfold stopAbort; simp
@[simp] theorem stopFinish_still (p : Fin 4) (s : State) : (stopFinish p s).still = s.still := by
  unfold stopFinish; split <;> simp
@[simp] theorem trigger_still (p : Fin 4) (n : Nat) (b : BusyMode) (src : TrigSource) (s : State) :
    (trigger p n b src s).still = s.still := by
  unfold trigger; (repeat (any_goals split)) <;> simp
theorem idleTails_still (n : Nat) (l : List (Fin 4 × PlayerOutcome)) (s : State) :
    (idleTails n l s).state.still = s.still := by
  induction n generalizing l s with
  | zero => rfl
  | succ n ih =>
    cases l with
    | nil => rfl
    | cons m rest =>
      simp only [idleTails]
      split <;> simp [ih]
@[simp] theorem setByParty_still (i : Fin 24) (o : Owner) (l f : Nat) (s : State) :
    (setByParty i o l f s).still = s.still := by unfold setByParty; simp
@[simp] theorem fadeStep_still (i : Fin 24) (s : State) : (fadeStep i s).still = s.still := by
  unfold fadeStep; simp only []; (repeat (any_goals split)) <;> simp

/-! ### Holdings -/

@[simp] theorem joinFast_still (p : Fin 32) (s : State) : (joinFast p s).still = s.still := by
  unfold joinFast; split <;> rfl
@[simp] theorem leaveFast_still (p : Fin 32) (s : State) : (leaveFast p s).still = s.still := by
  unfold leaveFast; split <;> rfl
@[simp] theorem beginHolding_still (a k : Nat) (u : HoldSubject) (s : State) :
    (beginHolding a k u s).still = s.still := by
  unfold beginHolding; simp only []; (repeat (any_goals split)) <;> simp [setEntry_still]
@[simp] theorem endHolding_still (a k : Nat) (u : HoldSubject) (s : State) :
    (endHolding a k u s).still = s.still := by
  unfold endHolding; simp only []; (repeat (any_goals split)) <;> simp [setEntry_still]
@[simp] theorem feedDeadman_still (p : Fin 32) (k : Nat) (s : State) : (feedDeadman p k s).still = s.still := by
  unfold feedDeadman; exact setEntry_still ..

end Sys2Proof.Machine
end

