-- ==== Sys2Proof/Laws/StillBlocks.lean ====
section
/-! SUPPORT. The motion blocks and the bindings leave the still part (Laws/Still.lean), whoever takes the
events they raise, as long as that party leaves it too; the Binding block does. -/

namespace Sys2Proof.Machine

/-- Whoever takes events leaves the still part. -/
def StillOffer (off : Offer) : Prop := ∀ e s, (off e s).still = s.still

/-! ### Stern motion -/

section Stern
variable {off : Offer} (ho : StillOffer off)

@[simp] theorem judgeClear_still (a : AxisId) (s : State) : (judgeClear a s).still = s.still := by
  cases a <;> rfl
@[simp] theorem axisTo_still (a : AxisId) (st : AxState) (s : State) : (axisTo a st s).still = s.still := by
  simp [axisTo]
@[simp] theorem dropHolder_still (a : AxisId) (s : State) : (dropHolder a s).still = s.still := by
  unfold dropHolder; simp only []; split <;> simp
@[simp] theorem newSeq_still (s : State) (q : Seq) : (s.newSeq q).still = s.still := rfl
@[simp] theorem tellSeq_still (who : Option Nat) (e : SeqEvent) (s : State) :
    (tellSeq who e s).still = s.still := by
  unfold tellSeq; split <;> rfl
@[simp] theorem closeValve_still (s : State) : (closeValve s).still = s.still := rfl
@[simp] theorem packOff_still (s : State) : (packOff s).still = s.still := rfl
@[simp] theorem enterRunOn_still (a : AxisId) (s : State) : (enterRunOn a s).still = s.still := rfl
@[simp] theorem openValve_still (a : AxisId) (s : State) : (openValve a s).still = s.still := by
  simp [openValve]
@[simp] theorem leadOver_still (a : AxisId) (s : State) : (leadOver a s).still = s.still := by
  unfold leadOver; split <;> simp
@[simp] theorem enterDrive_still (a : AxisId) (st : AxState) (s : State) : (enterDrive a st s).still = s.still := by
  simp [enterDrive]
@[simp] theorem enterLatching_still (a : AxisId) (s : State) : (enterLatching a s).still = s.still := by
  simp [enterLatching]
@[simp] theorem endDrive_still (a : AxisId) (s : State) : (endDrive a s).still = s.still := by simp [endDrive]
@[simp] theorem firstPhase_still (a : AxisId) (m : Move) (s : State) : (firstPhase a m s).still = s.still := by
  cases m <;> simp [firstPhase]
@[simp] theorem tellHolder_still (a : AxisId) (h : AxHolder) (s : State) : (tellHolder a h s).still = s.still := by
  cases h <;> simp [tellHolder]
theorem admitMove_still {a : AxisId} {m : Move} {s t : State} (e : admitMove a m s = .ok t) :
    t.still = s.still := by
  unfold admitMove at e
  split at e
  · injection e with e; subst e; rfl
  · split at e
    · split at e
      · cases e
      · next h =>
        injection e with e; subst e
        split <;> simp [reserveFor_still h]
    · exact requestNew_still e

include ho
theorem restStowed_still (a : AxisId) (s : State) : (restStowed off a s).still = s.still := by
  simp [restStowed, ho _ _]
theorem latchCheck_still (a : AxisId) (s : State) : (latchCheck off a s).still = s.still := by
  unfold latchCheck; split <;> simp [restStowed_still ho]
theorem stowEnd_still (a : AxisId) (s : State) : (stowEnd off a s).still = s.still := by
  simp [stowEnd, latchCheck_still ho]
theorem restExtended_still (a : AxisId) (s : State) : (restExtended off a s).still = s.still := by
  simp [restExtended, ho _ _]
theorem arrive_still (a : AxisId) (s : State) : (arrive off a s).still = s.still := by
  simp [arrive, restExtended_still ho]
theorem axisFault0_still (a : AxisId) (c : AxCause) (d : Nat) (s : State) :
    (axisFault0 off a c d s).still = s.still := by
  unfold axisFault0; simp only []
  (repeat (any_goals split)) <;> simp [ho _ _]
theorem watchPlatform_still (s : State) : (watchPlatform off s).still = s.still := by
  unfold watchPlatform; split <;> simp [axisFault0_still ho]
theorem axisFault_still (a : AxisId) (c : AxCause) (d : Nat) (s : State) :
    (axisFault off a c d s).still = s.still := by
  unfold axisFault; simp only []; split <;> simp [axisFault0_still ho, watchPlatform_still ho]
theorem watchHatch_still (s : State) : (watchHatch off s).still = s.still := by
  unfold watchHatch; simp only []; (repeat (any_goals split)) <;> simp [axisFault_still ho]
theorem stopAxis_still (a : AxisId) (s : State) : (stopAxis off a s).still = s.still := by
  unfold stopAxis
  split <;> (try simp only []) <;> (try split) <;> simp [restStowed_still ho, restExtended_still ho, ho _ _]
theorem beginMove_still (a : AxisId) (n : Nat) (h : AxHolder) (m : Move) (s : State) :
    (beginMove off a n h m s).still = s.still := by
  simp [beginMove, latchCheck_still ho, ho _ _]
theorem startAxis_still (a : AxisId) (n : Nat) (h : AxHolder) (s : State) :
    (startAxis off a n h s).2.still = s.still := by
  unfold startAxis
  simp only []
  (repeat (any_goals split)) <;> (try simp [beginMove_still ho])
  all_goals exact admitMove_still ‹_›
theorem endSeq_still (c : Option (Nat × SeqCause)) (s : State) : (endSeq off c s).still = s.still := by
  unfold endSeq
  cases hq : s.stern.seq.holder <;> simp [ho _ _, hq]
theorem runStep_still (n : Nat) (s : State) : (runStep off n s).2.still = s.still := by
  induction n generalizing s with
  | zero => simp [runStep, endSeq_still ho]
  | succ n ih =>
    simp only [runStep]
    (repeat (any_goals split)) <;> simp [ih, startAxis_still ho, endSeq_still ho]
theorem seqTake_still (w : Nat × SeqEvent) (s : State) : (seqTake off w s).still = s.still := by
  unfold seqTake; simp only []
  (repeat (any_goals split)) <;> simp [runStep_still ho, endSeq_still ho]
theorem sternSettle_still (n : Nat) (s : State) : (sternSettle off n s).still = s.still := by
  induction n generalizing s with
  | zero => rfl
  | succ n ih =>
    simp only [sternSettle]
    split
    · rfl
    · rw [ih, seqTake_still ho]; rfl
theorem settleSeq_still (s : State) : (settleSeq off s).still = s.still := sternSettle_still ho 12 s
theorem startSequence_still (k : SeqKind) (h : SeqHolder) (s : State) :
    (startSequence off k h s).2.still = s.still := by
  unfold startSequence
  split
  · rfl
  · simp only []
    split <;> cases h <;> simp [settleSeq_still ho, runStep_still ho]
theorem commandMove_still (a : AxisId) (n : Nat) (h : AxHolder) (s : State) :
    (commandMove off a n h s).2.still = s.still := by simp [commandMove, settleSeq_still ho, startAxis_still ho]
theorem commandStop_still (n : Nat) (s : State) : (commandStop off n s).still = s.still := by
  unfold commandStop; simp only []
  (repeat (any_goals split)) <;> simp [settleSeq_still ho, stopAxis_still ho]
theorem stopStepAxis_still (s : State) : (stopStepAxis off s).still = s.still := by
  unfold stopStepAxis; split <;> simp [settleSeq_still ho, stopAxis_still ho]
theorem axisReport_still (a : AxisId) (x k : Nat) (s : State) : (axisReport off a x k s).still = s.still := by
  unfold axisReport; split <;> simp [settleSeq_still ho, stopAxis_still ho]
theorem seqReport_still (x k : Nat) (s : State) : (seqReport off x k s).still = s.still := by
  unfold seqReport; split <;> simp [stopStepAxis_still ho]
theorem sternStandalone_still (s : State) : (sternStandalone off s).still = s.still := by
  unfold sternStandalone; simp only []
  (repeat (any_goals split)) <;> simp [settleSeq_still ho, stopAxis_still ho]
theorem sternCritical_still (s : State) : (sternCritical off s).still = s.still := by
  unfold sternCritical; simp only []
  (repeat (any_goals split)) <;> simp [settleSeq_still ho, axisFault_still ho]
theorem axisPosition_still (a : AxisId) (s : State) : (axisPosition off a s).still = s.still := by
  unfold axisPosition; simp only []
  (repeat (any_goals split)) <;> simp [axisFault_still ho, arrive_still ho]
theorem positionTaken_still (a : AxisId) (s : State) : (positionTaken off a s).still = s.still := by
  unfold positionTaken; simp only []
  split <;> simp [settleSeq_still ho, watchHatch_still ho, axisPosition_still ho]
theorem stowInput_still (a : AxisId) (on : Bool) (s : State) : (stowInput off a on s).still = s.still := by
  unfold stowInput; split <;> simp [stowEnd_still ho, axisFault_still ho]
theorem outInput_still (a : AxisId) (on : Bool) (s : State) : (outInput off a on s).still = s.still := by
  unfold outInput; split <;> simp [arrive_still ho]
theorem latchInput_still (a : AxisId) (on : Bool) (s : State) : (latchInput off a on s).still = s.still := by
  unfold latchInput; split <;> simp [axisFault_still ho, latchCheck_still ho]
theorem stowedLoses_still (a : AxisId) (s : State) : (stowedLoses off a s).still = s.still := by
  unfold stowedLoses; split <;> simp [settleSeq_still ho, axisFault_still ho]
theorem tenderInput_still (on : Bool) (s : State) : (tenderInput off on s).still = s.still := by
  unfold tenderInput; split <;> simp [axisFault_still ho]
theorem unlatchTimeout_still (a : AxisId) (s : State) : (unlatchTimeout off a s).still = s.still := by
  unfold unlatchTimeout; split <;> simp [settleSeq_still ho, axisFault_still ho]
theorem latchTimeout_still (a : AxisId) (s : State) : (latchTimeout off a s).still = s.still := by
  unfold latchTimeout; split <;> simp [settleSeq_still ho, axisFault_still ho]
theorem runTimeout_still (a : AxisId) (s : State) : (runTimeout off a s).still = s.still := by
  unfold runTimeout; split <;> simp [settleSeq_still ho, axisFault_still ho]
theorem noProgress_still (a : AxisId) (s : State) : (noProgress off a s).still = s.still := by
  unfold noProgress; (repeat (any_goals split)) <;> simp [settleSeq_still ho, axisFault_still ho]
theorem axisStartUp_still (a : AxisId) (s : State) : (axisStartUp off a s).still = s.still := by
  unfold axisStartUp; simp only []; (repeat (any_goals split)) <;> simp [ho _ _]
end Stern

@[simp] theorem pumpLeadEnd_still (s : State) : (pumpLeadEnd s).still = s.still := by
  unfold pumpLeadEnd; (repeat (any_goals split)) <;> simp
@[simp] theorem runOnEnd_still (s : State) : (runOnEnd s).still = s.still := by
  unfold runOnEnd; split <;> simp
@[simp] theorem cooldownOver_still (a : AxisId) (s : State) : (cooldownOver a s).still = s.still := by
  unfold cooldownOver; split <;> simp
@[simp] theorem clearAxisFault_still (a : AxisId) (s : State) : (clearAxisFault a s).1.still = s.still := by
  unfold clearAxisFault; (repeat (any_goals split)) <;> simp

/-! ### The windlass -/

@[simp] theorem beginCellWrite_still (c : Nat) (s : State) : (beginCellWrite c s).still = s.still := by
  unfold beginCellWrite Nv.setSlot; simp only []; split <;> rfl
@[simp] theorem writeCell_still (s : State) : (writeCell s).still = s.still := by
  unfold writeCell; split <;> simp <;> rfl
@[simp] theorem cellWriteDone_still (s : State) : (cellWriteDone s).still = s.still := by
  unfold cellWriteDone Nv.setSlot; (repeat (any_goals split)) <;> simp only [beginCellWrite_still] <;> rfl
@[simp] theorem wlTo_still (w : Windlass) (s : State) : (wlTo w s).still = s.still := by simp [wlTo]
@[simp] theorem enterBraking_still (e : BrakingEnd) (r : Bool) (s : State) :
    (enterBraking e r s).still = s.still := by
  unfold enterBraking; simp only []; split <;> simp
@[simp] theorem endCreep_still (s : State) : (endCreep s).still = s.still := by
  unfold endCreep; split <;> simp
@[simp] theorem creepOver_still (s : State) : (creepOver s).still = s.still := by
  unfold creepOver; (repeat (any_goals split)) <;> simp
@[simp] theorem setConflict_still (d : Dir) (h : Hold) (s : State) : (setConflict d h s).still = s.still := by
  unfold setConflict; split <;> simp
@[simp] theorem conflictCheck_still (s : State) : (conflictCheck s).still = s.still := by
  unfold conflictCheck; split <;> simp
@[simp] theorem enterHold_still (h : Hold) (s : State) : (enterHold h s).still = s.still := by
  unfold enterHold; simp only []; split <;> simp
@[simp] theorem removeHold_still (h : HoldSource) (s : State) : (removeHold h s).still = s.still := by
  unfold removeHold; simp only []; split <;> simp
theorem admitRun_still {r : Run} {s t : State} (e : admitRun r s = .ok t) : t.still = s.still := by
  unfold admitRun at e
  repeat (any_goals split at e)
  · exact reserveFor_still e
  · cases e
  · injection e with e; subst e; rfl
@[simp] theorem jogOnEnd_still (s : State) : (jogOnEnd s).still = s.still := by unfold jogOnEnd; split <;> simp
@[simp] theorem brakeFreeOff_still (s : State) : (brakeFreeOff s).still = s.still := by
  unfold brakeFreeOff; split <;> simp
@[simp] theorem disagreementQuiet_still (s : State) : (disagreementQuiet s).still = s.still := by
  unfold disagreementQuiet; split <;> simp
@[simp] theorem chainError_still (s : State) : (chainError s).still = s.still := by
  unfold chainError; split <;> simp
@[simp] theorem clearWindlassFault_still (s : State) : (clearWindlassFault s).1.still = s.still := by
  unfold clearWindlassFault; split <;> simp

section Windlass
variable {off : Offer} (ho : StillOffer off)
include ho

theorem stopWindlass_still (c : StopCause) (s : State) : (stopWindlass off c s).still = s.still := by
  unfold stopWindlass; split <;> simp [ho _ _]
theorem faultWindlass_still (c : WlCause) (d : Nat) (s : State) : (faultWindlass off c d s).still = s.still := by
  unfold faultWindlass; split <;> simp [ho _ _]
theorem permitStopAxis_still (a : AxisId) (t : Option Nat) (s : State) :
    (permitStopAxis off a t s).still = s.still := by
  unfold permitStopAxis; (repeat (any_goals split)) <;> simp [settleSeq_still ho, axisFault_still ho]
theorem permitStopWindlass_still (t : Option Nat) (s : State) : (permitStopWindlass off t s).still = s.still := by
  unfold permitStopWindlass; split <;> simp [faultWindlass_still ho]
theorem recheck_still (c : List Change) (s : State) : (recheck off c s).still = s.still := by
  simp [recheck, permitStopWindlass_still ho, permitStopAxis_still ho]
theorem judgeAnchored_still (s : State) : (judgeAnchored off s).still = s.still := by
  unfold judgeAnchored; simp only []
  split
  · rfl
  · simp only [ho _ _, notice_still, recheck_still ho]; rfl
theorem beginJog_still (s : State) : (beginJog off s).still = s.still := by
  unfold beginJog; simp only []; (repeat (any_goals split)) <;> simp [faultWindlass_still ho]
theorem jogOffEnd_still (s : State) : (jogOffEnd off s).still = s.still := by
  unfold jogOffEnd; split <;> simp [beginJog_still ho]
theorem enterRun_still (r : Run) (s : State) : (enterRun off r s).still = s.still := by
  unfold enterRun; (repeat (any_goals split)) <;> simp only [] <;> (try split) <;> simp [beginJog_still ho]
theorem beginRun_still (r : Run) (h : WlHolder) (s : State) : (beginRun off r h s).still = s.still := by
  simp [beginRun, ho _ _, judgeAnchored_still ho, enterRun_still ho]
theorem replaceRun_still (r : Run) (s : State) : (replaceRun off r s).2.still = s.still := by
  unfold replaceRun; simp only []
  (repeat (any_goals split)) <;> simp [stopWindlass_still ho, beginJog_still ho]
theorem startWindlass_still (r : Run) (h : WlHolder) (s : State) : (startWindlass off r h s).2.still = s.still := by
  unfold startWindlass
  simp only []
  (repeat (any_goals split)) <;> (try simp [replaceRun_still ho, beginRun_still ho])
  all_goals exact admitRun_still ‹_›
theorem countPulse_still (o : Bool) (s : State) : (countPulse off o s).still = s.still := by
  unfold countPulse; simp only []
  (repeat (any_goals split)) <;> simp [judgeAnchored_still ho]
theorem watchPulse_still (o : Bool) (s : State) : (watchPulse off o s).still = s.still := by
  unfold watchPulse; simp only []; (repeat (any_goals split)) <;> simp [faultWindlass_still ho]
theorem overspeedWatch_still (o : Bool) (s : State) : (overspeedWatch off o s).still = s.still := by
  unfold overspeedWatch; simp only []; (repeat (any_goals split)) <;> simp [stopWindlass_still ho]
theorem runAtPulse_still (o : Bool) (s : State) : (runAtPulse off o s).still = s.still := by
  unfold runAtPulse; simp only []
  (repeat (any_goals split)) <;> simp [stopWindlass_still ho, overspeedWatch_still ho, beginJog_still ho]
theorem chainPulse_still (o : Bool) (s : State) : (chainPulse off o s).still = s.still := by
  simp [chainPulse, runAtPulse_still ho, watchPulse_still ho, countPulse_still ho]
theorem anchorHome_still (s : State) : (anchorHome off s).still = s.still := by
  unfold anchorHome; simp only []; split <;> simp [stopWindlass_still ho, judgeAnchored_still ho]
theorem motorCurrentTaken_still (s : State) : (motorCurrentTaken off s).still = s.still := by
  unfold motorCurrentTaken; (repeat (any_goals split)) <;> simp [faultWindlass_still ho]
theorem stallOver_still (s : State) : (stallOver off s).still = s.still := by
  unfold stallOver; (repeat (any_goals split)) <;> simp [faultWindlass_still ho]
theorem brakingOver_still (s : State) : (brakingOver off s).still = s.still := by
  unfold brakingOver; simp only []; (repeat (any_goals split)) <;> simp [judgeAnchored_still ho]
theorem thermalLockout_still (s : State) : (thermalLockout off s).still = s.still := by
  unfold thermalLockout; split <;> simp [stopWindlass_still ho]
theorem lockoutOver_still (s : State) : (lockoutOver off s).still = s.still := by
  unfold lockoutOver; split <;> simp [judgeAnchored_still ho]
theorem holdArrives_still (h : Hold) (n : Nat) (w : WlHolder) (s : State) :
    (holdArrives off h n w s).2.still = s.still := by
  unfold holdArrives
  (repeat (any_goals split)) <;> simp [stopWindlass_still ho, startWindlass_still ho]
theorem panelHold_still (a k : Nat) (h : HoldKind) (n : Nat) (s : State) :
    (panelHold off a k h n s).2.still = s.still := by
  unfold panelHold; simp only []
  (repeat (any_goals split)) <;> simp [holdArrives_still ho]
theorem footPressed_still (d : Bool) (s : State) : (footPressed off d s).still = s.still := by
  unfold footPressed; simp only []
  (repeat (any_goals split)) <;> simp [holdArrives_still ho]
theorem footReleased_still (d : Bool) (s : State) : (footReleased off d s).still = s.still := by
  unfold footReleased; simp only []
  (repeat (any_goals split)) <;> simp [stopWindlass_still ho]
theorem footInput_still (d on : Bool) (s : State) : (footInput off d on s).still = s.still := by
  unfold footInput; split <;> simp [footPressed_still ho, footReleased_still ho]
theorem windlassReport_still (c : StopCause) (a k : Nat) (s : State) :
    (windlassReport off c a k s).still = s.still := by
  unfold windlassReport; simp only []; split <;> simp [stopWindlass_still ho]
theorem windlassStandalone_still (s : State) : (windlassStandalone off s).still = s.still := by
  unfold windlassStandalone; split <;> simp [stopWindlass_still ho]
theorem setCount_still (c : Nat) (s : State) : (setCount off c s).1.still = s.still := by
  unfold setCount; simp only []; (repeat (any_goals split)) <;> simp [judgeAnchored_still ho]

/-- Players that settle leave the still part. -/
theorem settlePlayers_still (s : State) : (settlePlayers off s).still = s.still := by
  unfold settlePlayers
  simp only []
  rw [foldl_still _ (fun s m => ho (doneEvent m) s), idleTails_still, clearIdleWork_still]
end Windlass

/-! ### Bindings -/

theorem enqueue_still : StillOffer enqueue := by
  intro e s; unfold enqueue; simp only []; split <;> rfl
@[simp] theorem enqueueStartUp_still (e : Event) (s : State) : (enqueueStartUp e s).still = s.still := by
  unfold enqueueStartUp; split <;> rfl
@[simp] theorem reportDropped_still (s : State) : (reportDropped s).still = s.still := by
  unfold reportDropped; split <;> simp <;> rfl
@[simp] theorem reportDroppedStartUp_still (s : State) : (reportDroppedStartUp s).still = s.still := by
  unfold reportDroppedStartUp; split <;> simp <;> rfl
@[simp] theorem stopPlayer_still (p : Fin 4) (k : Nat) (s : State) : (stopPlayer p k s).still = s.still := by
  unfold stopPlayer; split <;> simp
theorem act_still (i : Fin 64) (b : Binding) (e : Event) (s : State) : (act i b e s).2.still = s.still := by
  have he := enqueue_still
  unfold act actSceneStart actSceneStop actChannel actHold actAuto
  simp only []
  (repeat (any_goals split)) <;>
    simp [settlePlayers_still he, commandMove_still he, commandStop_still he, startSequence_still he,
      panelHold_still he, startWindlass_still he, stopWindlass_still he]
@[simp] theorem reportAction_still (i : Fin 64) (e : Event) (r : StartRes) (s : State) :
    (reportAction i e r s).still = s.still := by unfold reportAction; split <;> simp
@[simp] theorem bindingActs_still (i : Fin 64) (d : Nat) (e : Event) (s : State) :
    (bindingActs i d e s).still = s.still := by
  unfold bindingActs
  simp only []
  exact (reportAction_still ..).trans (act_still ..)
@[simp] theorem takeEvent_still (q : Queued) (s : State) : (takeEvent q s).still = s.still := by
  unfold takeEvent; (repeat (any_goals split)) <;> simp
theorem takeEvents_still (n : Nat) (s : State) : (takeEvents n s).still = s.still := by
  induction n generalizing s with
  | zero => rfl
  | succ n ih =>
    simp only [takeEvents]
    split
    · rfl
    · rw [ih, settleSeq_still enqueue_still, takeEvent_still, reportDropped_still]; rfl
theorem drainEvents_still (n : Nat) (s : State) : (drainEvents n s).still = s.still := by
  induction n generalizing s with
  | zero => rfl
  | succ n ih => rw [drainEvents, ih, takeEvents_still]

/-- An event offered to the Binding block leaves the still part, whatever its bindings do. -/
theorem offerNow_still : StillOffer offerNow := by
  intro e s; unfold offerNow
  (repeat (any_goals split)) <;> simp [enqueue_still _ _, drainEvents_still]
theorem takeStartUp_still (n : Nat) (s : State) : (takeStartUp n s).still = s.still := by
  induction n generalizing s with
  | zero => rfl
  | succ n ih =>
    simp only [takeStartUp]
    split
    · rfl
    · rw [ih, takeEvent_still, reportDroppedStartUp_still]; rfl
@[simp] theorem drainStartUp_still (s : State) : (drainStartUp s).still = s.still := by
  simp [drainStartUp, drainEvents_still, takeStartUp_still]

end Sys2Proof.Machine
end

