-- ==== Sys2Proof/Laws/Quiet.lean ====
section
/-! SUPPORT. What the shared operations do where nothing waits, no binding is enabled and no permit term is:
an event offered is matched by none, a sequence that was told nothing takes nothing, a re-check stops nothing,
and a request taken forms its reply. A proof about one command cites these instead of unfolding the Binding,
Scene, Stern and Permit blocks. -/

namespace Sys2Proof.Machine

/-! ### Events without bindings -/

theorem matching_none {s : State} (h : s.Unbound) (e : Event) : s.matching e = none := by
  refine List.find?_eq_none.2 fun i _ => ?_
  have hi : s.cfg.bindings[(i : Nat)].enabled = false := h i
  simp [Binding.matchesEvent, hi]

/-- An event of depth 0 that no binding matches changes nothing. -/
theorem takeEvent_unbound {s : State} (h : s.Unbound) (e : Event) : takeEvent ⟨e, 0, 0⟩ s = s := by
  simp [takeEvent, matching_none h]

theorem drainEvents_nil (n : Nat) {s : State} (h : s.bind.events = []) : drainEvents n s = s := by
  induction n with
  | zero => rfl
  | succ n ih => simp [drainEvents, h, takeEvents, ih]

/-- With no binding enabled an event offered between actions changes nothing. -/
theorem offerNow_unbound {s : State} (e : Event) (hs : s.starting = false) (ha : s.bind.acting = none)
    (he : s.bind.events = []) (hu : s.Unbound) : offerNow e s = s := by
  simp [offerNow, hs, ha, takeEvent_unbound hu, drainEvents_nil 16 he]

theorem State.Calm.offerNow {s : State} (h : s.Calm) (e : Event) : offerNow e s = s :=
  offerNow_unbound e h.started h.between.acting h.between.events h.unbound

/-! ### Nothing told, nothing waiting -/

theorem settleSeq_nil (off : Offer) {s : State} (h : s.stern.seqWork = []) : settleSeq off s = s := by
  unfold settleSeq sternSettle; simp [h]

/-- What no sequence waits for is told to none. -/
@[simp] theorem tellSeq_none (e : SeqEvent) (s : State) : tellSeq none e s = s := rfl

theorem inStep_idle {s : State} (h : s.stern.seq.running = false) : s.inStep = none := by
  simp [State.inStep, h]

theorem stepOn_idle {s : State} (a : AxisId) (h : s.stern.seq.running = false) : s.stepOn a = none := by
  simp [State.stepOn, inStep_idle h]

/-- A sequence takes nothing that was told to another. -/
theorem seqTake_other (off : Offer) {w : Nat × SeqEvent} {s : State} (h : w.1 ≠ s.stern.seqCount) :
    seqTake off w s = s := by
  unfold seqTake State.inStep
  simp only []
  rw [if_pos]
  split <;> simp [Ne.symm h]

theorem settlePlayers_nil (off : Offer) {s : State} (h : s.scene.idleWork = []) : settlePlayers off s = s := by
  have hc : s.clearIdleWork = s := by
    obtain ⟨_, _, _, _, _, ⟨_, _, _⟩, _, _, _, _, _, _, _, _, _⟩ := s
    simp only at h; subst h; rfl
  simp [settlePlayers, doneOrder, h, hc, idleTails]

/-- Moves of players whose pending slots are empty lead to no further move, and are finished in order. -/
theorem idleTails_noPending (n : Nat) {l : List (Fin 4 × PlayerOutcome)} {s : State}
    (h : ∀ m ∈ l, (s.player m.1).pendingTrig = none) : idleTails n l s = ⟨[], l, s⟩ := by
  induction n generalizing l with
  | zero => rfl
  | succ n ih =>
    cases l with
    | nil => rfl
    | cons m rest =>
      simp [idleTails, h m (by simp), ih fun x hx => h x (List.mem_cons_of_mem _ hx)]

/-- The events of moves of players whose pending slots are empty are handed on in the order of the moves. -/
theorem settlePlayers_noPending (off : Offer) {s : State}
    (h : ∀ m ∈ s.scene.idleWork, (s.player m.1).pendingTrig = none) :
    settlePlayers off s = s.scene.idleWork.foldl (fun acc m => off (doneEvent m) acc) s.clearIdleWork := by
  have ht := idleTails_noPending 40 (s := s.clearIdleWork) (l := s.scene.idleWork) h
  simp [settlePlayers, doneOrder, ht]

/-- Without a STOWED axis to watch, a role that loses its input is no one's concern (R105). -/
theorem roleRemoved_unwatched (off : Offer) (r : DiRole) {s : State}
    (h : ∀ a, r = stowRole a ∨ r = latchRole a → (s.axis a).state ≠ .stowed) : roleRemoved off r s = s := by
  have hl : ∀ a, (s.axis a).state ≠ .stowed → stowedLoses off a s = s := fun a ha => if_neg ha
  cases r <;> first
    | rfl
    | exact hl .platform (h .platform (by simp [stowRole, latchRole]))
    | exact hl .hatch (h .hatch (by simp [stowRole, latchRole]))

/-! ### No permit term enabled -/

theorem termsFor_unwatched {s : State} (h : s.Unwatched) (sub : Subject) (d : Dir) (c : Bool) :
    s.termsFor sub d c = [] := by
  refine List.filter_eq_nil_iff.2 fun p hp => ?_
  obtain ⟨i, _, rfl⟩ := List.mem_map.1 hp
  have hi : s.cfg.limits.terms[(i : Nat)].enabled = false := h i
  simp [Term.applies, hi]

theorem failingTerm_unwatched {s : State} (h : s.Unwatched) (sub : Subject) (d : Dir) (c : Bool) :
    failingTerm sub d c s = none := by simp [failingTerm, termsFor_unwatched h]

theorem recheckTerm_unwatched {s : State} (h : s.Unwatched) (chs : List Change) (sub : Subject) :
    recheckTerm chs sub s = none := by
  unfold recheckTerm; split <;> simp [termsFor_unwatched h]

theorem recheck_unwatched (off : Offer) {s : State} (h : s.Unwatched) (chs : List Change) :
    recheck off chs s = s := by
  simp [recheck, recheckTerm_unwatched h, permitStopAxis, permitStopWindlass]

theorem windlassPermit_unwatched {s : State} (h : s.Unwatched) (d : Dir) : windlassPermit d s = none := by
  simp [windlassPermit, failingTerm_unwatched h]

/-! ### Notices -/

/-- A notice of an enabled class joins a queue that has room (R196). -/
theorem notice_joins {n : Note} {s : State} (subj : Nat) (vs : List Int)
    (he : s.link.enabled.getLsbD (codeIn nClasses n.cls) = true) (hq : s.link.queue.length < 32) :
    notice n subj vs s =
      { s with link := { s.link with queue := s.link.queue ++ [⟨s.dev.uptime, n, subj, vs⟩] } } := by
  rw [notice, if_pos he, if_pos hq]

/-- A notice of a disabled class is not given (R195). -/
theorem notice_disabled {n : Note} {s : State} (subj : Nat) (vs : List Int)
    (he : s.link.enabled.getLsbD (codeIn nClasses n.cls) = false) : notice n subj vs s = s := by
  simp [notice, he]

/-! ### Requests -/

theorem leaveList_requests (k tag : Byte) (s : State) :
    leaveList k tag s = { s with link := { s.link with requests := afterTaken k tag s.link.requests } } := by
  have same (l : List Frame) (h : s.link.requests = l) :
      s = { s with link := { s.link with requests := l } } := by subst h; rfl
  unfold leaveList
  split
  · next f rest hr =>
    rw [hr]; unfold afterTaken
    simp only []
    split
    · rfl
    · exact same _ hr
  · next hr => rw [hr]; exact same _ hr

/-- A request whose block changes nothing forms its reply. -/
theorem formReply_leaveList (k : Byte) (q : Req) (a : Ans) (s : State) :
    formReply k q.tag a (leaveList k q.tag s) = withReply k q a s := by
  rw [leaveList_requests]; rfl

theorem leaveList_taken (k : Byte) (q : Req) (s : State) : leaveList k q.tag s = s.taken k q :=
  leaveList_requests k q.tag s

/-- A request that can be taken is taken: its block works on the state with the request gone from the list. -/
theorem takeRequest_ok {k : Byte} {q : Req} {refuse : Status → State → Ans} {body : State → State × Ans}
    {s : State} (h : s.Takes) :
    takeRequest k q true refuse body s =
      formReply k q.tag (body (leaveList k q.tag s)).2 (body (leaveList k q.tag s)).1 := by
  have : (leaveList k q.tag s).starting = false := by rw [leaveList_requests]; exact h.started
  simp [takeRequest, h.noReset, this]

theorem takeFixed_ok {k : Byte} {q : Req} {n : Nat} {body : State → State × Ans} {s : State} (h : s.Takes)
    (hl : q.len = n) :
    takeFixed k q n body s =
      formReply k q.tag (body (leaveList k q.tag s)).2 (body (leaveList k q.tag s)).1 := by
  subst hl; unfold takeFixed; rw [beq_self_eq_true]; exact takeRequest_ok h

/-- A request that only reads forms its reply and changes nothing else. -/
theorem takeFixed_reads {k : Byte} {q : Req} {n : Nat} {f : State → Ans} {s : State} (h : s.Takes)
    (hl : q.len = n) :
    takeFixed k q n (reads f) s = withReply k q (f (leaveList k q.tag s)) s := by
  rw [takeFixed_ok h hl, ← formReply_leaveList]; rfl

/-- A request refused by its block, which changes nothing then. -/
theorem takeFixed_same {k : Byte} {q : Req} {n : Nat} {body : State → State × Ans} {s : State} {a : Ans}
    (h : s.Takes) (hl : q.len = n) (hb : body (leaveList k q.tag s) = (leaveList k q.tag s, a)) :
    takeFixed k q n body s = withReply k q a s := by
  rw [takeFixed_ok h hl, hb, formReply_leaveList]

/-- A request of a wrong LENGTH (R190 step 2). -/
theorem takeFixed_badLength {k : Byte} {q : Req} {n : Nat} {body : State → State × Ans} {s : State}
    (h : s.link.resetReply = false) (hl : q.len ≠ n) :
    takeFixed k q n body s = withReply k q (Ans.refused .badLength) s := by
  rw [← formReply_leaveList]
  simp [takeFixed, takeRequest, h, hl, plainRefusal]

/-- A request other than GET_STATUS taken in STARTING (R190). -/
theorem takeFixed_starting {k : Byte} {q : Req} {n : Nat} {body : State → State × Ans} {s : State}
    (h : s.link.resetReply = false) (hs : s.starting = true) (hk : k ≠ 0x01) (hl : q.len = n) :
    takeFixed k q n body s = withReply k q (Ans.refused .notReady) s := by
  subst hl
  have : (leaveList k q.tag s).starting = true := by rw [leaveList_requests]; exact hs
  rw [← formReply_leaveList]
  unfold takeFixed takeRequest
  simp only [h, this, plainRefusal, beq_self_eq_true]
  rw [if_neg (by decide), if_neg (by decide), if_pos ⟨trivial, hk⟩]

end Sys2Proof.Machine
end

