-- ==== Sys2Proof/Laws/Ops.lean ====
section
/-! SUPPORT. The operations that several blocks share: for each, the fields it leaves as they are, and what it
makes of the rest. -/

namespace Sys2Proof.Machine

/-- A role that loses its input leaves the still part, as its axis's fault does (R105). -/
theorem roleRemoved_still {off : Offer} (ho : StillOffer off) (r : DiRole) (s : State) :
    (roleRemoved off r s).still = s.still := by cases r <;> simp [roleRemoved, stowedLoses_still ho]

/-! ### evaluate: granted duties, the figures kept, the two conditions, their notices -/

/-- What is in neither the channels nor the Supply Budget block, and no notice changes, an evaluation keeps. -/
theorem evaluate_keeps {α : Type} (f : State → α) (hn : ∀ n i v t, f (notice n i v t) = f t)
    (hb : ∀ t b, f { t with budget := b } = f t) (hc : ∀ t c, f { t with chan := c } = f t) (s : State) :
    f (evaluate s) = f s := by
  unfold evaluate
  split
  · rfl
  · unfold settleConditions applyGrants
    simp only []
    split <;> (try rw [hn]) <;> split <;> (try rw [hn]) <;>
      exact (hb (applyGrants (evalFigures s) s) _).trans (hc s _)

/-- The two conditions are kept with the figures (R22, R25, R37). -/
theorem settleConditions_budget (e : Eval) (s : State) : (settleConditions e s).budget =
    { s.budget with last := e, budgetOver := e.isOver, shedding := e.sheds } := by
  unfold settleConditions
  simp only []
  split <;> (try rw [notice_budget]) <;> split <;> (try rw [notice_budget]) <;> rfl
theorem settleConditions_chan (e : Eval) (s : State) : (settleConditions e s).chan = s.chan := by
  unfold settleConditions
  simp only []
  split <;> (try rw [notice_chan]) <;> split <;> (try rw [notice_chan]) <;> rfl
theorem applyGrants_chan (e : Eval) (s : State) (i : Fin 24) :
    (applyGrants e s).chan[i] = { s.chan[i] with granted := grantedDuty e (s.chCfg i) s.chan[i] } := by
  unfold applyGrants; simp
@[simp] theorem evaluate_cfg (s : State) : (evaluate s).cfg = s.cfg :=
  evaluate_keeps (·.cfg) (fun n i v t => notice_cfg n i v t) (fun _ _ => rfl) (fun _ _ => rfl) s
@[simp] theorem evaluate_nv (s : State) : (evaluate s).nv = s.nv :=
  evaluate_keeps (·.nv) (fun n i v t => notice_nv n i v t) (fun _ _ => rfl) (fun _ _ => rfl) s
@[simp] theorem evaluate_beacon (s : State) : (evaluate s).beacon = s.beacon :=
  evaluate_keeps (·.beacon) (fun n i v t => notice_beacon n i v t) (fun _ _ => rfl) (fun _ _ => rfl) s
@[simp] theorem evaluate_scene (s : State) : (evaluate s).scene = s.scene :=
  evaluate_keeps (·.scene) (fun n i v t => notice_scene n i v t) (fun _ _ => rfl) (fun _ _ => rfl) s
@[simp] theorem evaluate_inp (s : State) : (evaluate s).inp = s.inp :=
  evaluate_keeps (·.inp) (fun n i v t => notice_inp n i v t) (fun _ _ => rfl) (fun _ _ => rfl) s
@[simp] theorem evaluate_vessel (s : State) : (evaluate s).vessel = s.vessel :=
  evaluate_keeps (·.vessel) (fun n i v t => notice_vessel n i v t) (fun _ _ => rfl) (fun _ _ => rfl) s
@[simp] theorem evaluate_stern (s : State) : (evaluate s).stern = s.stern :=
  evaluate_keeps (·.stern) (fun n i v t => notice_stern n i v t) (fun _ _ => rfl) (fun _ _ => rfl) s
@[simp] theorem evaluate_wl (s : State) : (evaluate s).wl = s.wl :=
  evaluate_keeps (·.wl) (fun n i v t => notice_wl n i v t) (fun _ _ => rfl) (fun _ _ => rfl) s
@[simp] theorem evaluate_panel (s : State) : (evaluate s).panel = s.panel :=
  evaluate_keeps (·.panel) (fun n i v t => notice_panel n i v t) (fun _ _ => rfl) (fun _ _ => rfl) s
@[simp] theorem evaluate_bind (s : State) : (evaluate s).bind = s.bind :=
  evaluate_keeps (·.bind) (fun n i v t => notice_bind n i v t) (fun _ _ => rfl) (fun _ _ => rfl) s
@[simp] theorem evaluate_dev (s : State) : (evaluate s).dev = s.dev :=
  evaluate_keeps (·.dev) (fun n i v t => notice_dev n i v t) (fun _ _ => rfl) (fun _ _ => rfl) s
@[simp] theorem evaluate_pending (s : State) : (evaluate s).pending = s.pending :=
  evaluate_keeps (·.pending) (fun n i v t => notice_pending n i v t) (fun _ _ => rfl) (fun _ _ => rfl) s
@[simp] theorem evaluate_link_device (s : State) : (evaluate s).link.device = s.link.device :=
  evaluate_keeps (·.link.device) (fun n i v t => notice_link_device n i v t) (fun _ _ => rfl) (fun _ _ => rfl) s
@[simp] theorem evaluate_link_rx (s : State) : (evaluate s).link.rx = s.link.rx :=
  evaluate_keeps (·.link.rx) (fun n i v t => notice_link_rx n i v t) (fun _ _ => rfl) (fun _ _ => rfl) s
@[simp] theorem evaluate_link_requests (s : State) : (evaluate s).link.requests = s.link.requests :=
  evaluate_keeps (·.link.requests) (fun n i v t => notice_link_requests n i v t) (fun _ _ => rfl) (fun _ _ => rfl) s
@[simp] theorem evaluate_link_replies (s : State) : (evaluate s).link.replies = s.link.replies :=
  evaluate_keeps (·.link.replies) (fun n i v t => notice_link_replies n i v t) (fun _ _ => rfl) (fun _ _ => rfl) s
@[simp] theorem evaluate_link_sending (s : State) : (evaluate s).link.sending = s.link.sending :=
  evaluate_keeps (·.link.sending) (fun n i v t => notice_link_sending n i v t) (fun _ _ => rfl) (fun _ _ => rfl) s
@[simp] theorem evaluate_link_enabled (s : State) : (evaluate s).link.enabled = s.link.enabled :=
  evaluate_keeps (·.link.enabled) (fun n i v t => notice_link_enabled n i v t) (fun _ _ => rfl) (fun _ _ => rfl) s
@[simp] theorem evaluate_link_supervision (s : State) : (evaluate s).link.supervision = s.link.supervision :=
  evaluate_keeps (·.link.supervision) (fun n i v t => notice_link_supervision n i v t) (fun _ _ => rfl) (fun _ _ => rfl) s
@[simp] theorem evaluate_link_aloneMs (s : State) : (evaluate s).link.aloneMs = s.link.aloneMs :=
  evaluate_keeps (·.link.aloneMs) (fun n i v t => notice_link_aloneMs n i v t) (fun _ _ => rfl) (fun _ _ => rfl) s
@[simp] theorem evaluate_link_wasLinked (s : State) : (evaluate s).link.wasLinked = s.link.wasLinked :=
  evaluate_keeps (·.link.wasLinked) (fun n i v t => notice_link_wasLinked n i v t) (fun _ _ => rfl) (fun _ _ => rfl) s
@[simp] theorem evaluate_link_resetReply (s : State) : (evaluate s).link.resetReply = s.link.resetReply :=
  evaluate_keeps (·.link.resetReply) (fun n i v t => notice_link_resetReply n i v t) (fun _ _ => rfl) (fun _ _ => rfl) s
@[simp] theorem evaluate_axis (s : State) (a : AxisId) : (evaluate s).axis a = s.axis a := by
  cases a <;> simp [State.axis]
@[simp] theorem evaluate_res (s : State) : (evaluate s).budget.res = s.budget.res := by
  unfold evaluate; split
  · rfl
  · rw [settleConditions_budget]; rfl
@[simp] theorem evaluate_supply (s : State) : (evaluate s).budget.supply = s.budget.supply := by
  unfold evaluate; split
  · rfl
  · rw [settleConditions_budget]; rfl
@[simp] theorem evaluate_dwell (s : State) : (evaluate s).budget.dwell = s.budget.dwell := by
  unfold evaluate; split
  · rfl
  · rw [settleConditions_budget]; rfl
@[simp] theorem evaluate_held (s : State) : (evaluate s).budget.held = s.budget.held := by
  unfold evaluate; split
  · rfl
  · rw [settleConditions_budget]; rfl
/-- Outside STARTING each channel has the granted duty of its figures, and is else as it was (R24). -/
theorem evaluate_chan {s : State} (h : s.starting = false) (i : Fin 24) :
    (evaluate s).chan[i] = { s.chan[i] with granted := grantedDuty (evalFigures s) (s.chCfg i) s.chan[i] } := by
  unfold evaluate
  rw [if_neg (by simp [h]), settleConditions_chan, applyGrants_chan]
/-- An evaluation leaves every channel as it was but for the granted duty. -/
theorem evaluate_chan_others (s : State) (i : Fin 24) :
    { (evaluate s).chan[i] with granted := s.chan[i].granted } = s.chan[i] := by
  cases h : s.starting with
  | false => rw [evaluate_chan h]
  | true => rw [evaluate, if_pos h]
@[simp] theorem evaluate_level (s : State) (i : Fin 24) : (evaluate s).chan[i].level = s.chan[i].level := by
  have h := congrArg Channel.level (evaluate_chan_others s i); exact h
@[simp] theorem evaluate_fade (s : State) (i : Fin 24) : (evaluate s).chan[i].fade = s.chan[i].fade := by
  have h := congrArg Channel.fade (evaluate_chan_others s i); exact h
@[simp] theorem evaluate_owner (s : State) (i : Fin 24) : (evaluate s).chan[i].owner = s.chan[i].owner := by
  have h := congrArg Channel.owner (evaluate_chan_others s i); exact h
@[simp] theorem evaluate_deadMs (s : State) (i : Fin 24) : (evaluate s).chan[i].deadMs = s.chan[i].deadMs := by
  have h := congrArg Channel.deadMs (evaluate_chan_others s i); exact h
/-- The figures kept are those found (R37). -/
theorem evaluate_last {s : State} (h : s.starting = false) : (evaluate s).budget.last = evalFigures s := by
  unfold evaluate
  rw [if_neg (by simp [h]), settleConditions_budget]

/-! ### Reservations -/

@[simp] theorem freeRes_cfg (h : ResHolder) (s : State) : (freeRes h s).cfg = s.cfg := by
  unfold freeRes; split <;> simp
@[simp] theorem freeRes_nv (h : ResHolder) (s : State) : (freeRes h s).nv = s.nv := by
  unfold freeRes; split <;> simp
@[simp] theorem freeRes_beacon (h : ResHolder) (s : State) : (freeRes h s).beacon = s.beacon := by
  unfold freeRes; split <;> simp
@[simp] theorem freeRes_scene (h : ResHolder) (s : State) : (freeRes h s).scene = s.scene := by
  unfold freeRes; split <;> simp
@[simp] theorem freeRes_inp (h : ResHolder) (s : State) : (freeRes h s).inp = s.inp := by
  unfold freeRes; split <;> simp
@[simp] theorem freeRes_vessel (h : ResHolder) (s : State) : (freeRes h s).vessel = s.vessel := by
  unfold freeRes; split <;> simp
@[simp] theorem freeRes_stern (h : ResHolder) (s : State) : (freeRes h s).stern = s.stern := by
  unfold freeRes; split <;> simp
@[simp] theorem freeRes_wl (h : ResHolder) (s : State) : (freeRes h s).wl = s.wl := by
  unfold freeRes; split <;> simp
@[simp] theorem freeRes_panel (h : ResHolder) (s : State) : (freeRes h s).panel = s.panel := by
  unfold freeRes; split <;> simp
@[simp] theorem freeRes_bind (h : ResHolder) (s : State) : (freeRes h s).bind = s.bind := by
  unfold freeRes; split <;> simp
@[simp] theorem freeRes_dev (h : ResHolder) (s : State) : (freeRes h s).dev = s.dev := by
  unfold freeRes; split <;> simp
@[simp] theorem freeRes_pending (h : ResHolder) (s : State) : (freeRes h s).pending = s.pending := by
  unfold freeRes; split <;> simp
@[simp] theorem freeRes_link_device (h : ResHolder) (s : State) :
    (freeRes h s).link.device = s.link.device := by unfold freeRes; split <;> simp
@[simp] theorem freeRes_link_rx (h : ResHolder) (s : State) :
    (freeRes h s).link.rx = s.link.rx := by unfold freeRes; split <;> simp
@[simp] theorem freeRes_link_requests (h : ResHolder) (s : State) :
    (freeRes h s).link.requests = s.link.requests := by unfold freeRes; split <;> simp
@[simp] theorem freeRes_link_replies (h : ResHolder) (s : State) :
    (freeRes h s).link.replies = s.link.replies := by unfold freeRes; split <;> simp
@[simp] theorem freeRes_link_sending (h : ResHolder) (s : State) :
    (freeRes h s).link.sending = s.link.sending := by unfold freeRes; split <;> simp
@[simp] theorem freeRes_link_enabled (h : ResHolder) (s : State) :
    (freeRes h s).link.enabled = s.link.enabled := by unfold freeRes; split <;> simp
@[simp] theorem freeRes_link_supervision (h : ResHolder) (s : State) :
    (freeRes h s).link.supervision = s.link.supervision := by unfold freeRes; split <;> simp
@[simp] theorem freeRes_link_aloneMs (h : ResHolder) (s : State) :
    (freeRes h s).link.aloneMs = s.link.aloneMs := by unfold freeRes; split <;> simp
@[simp] theorem freeRes_link_wasLinked (h : ResHolder) (s : State) :
    (freeRes h s).link.wasLinked = s.link.wasLinked := by unfold freeRes; split <;> simp
@[simp] theorem freeRes_link_resetReply (h : ResHolder) (s : State) :
    (freeRes h s).link.resetReply = s.link.resetReply := by unfold freeRes; split <;> simp
@[simp] theorem freeRes_axis (h : ResHolder) (s : State) (a : AxisId) : (freeRes h s).axis a = s.axis a := by
  cases a <;> simp [State.axis]
/-- A release leaves no entry for its holder (R30). -/
theorem freeRes_get (h : ResHolder) (s : State) : (freeRes h s).budget.res.get h = none := by
  unfold freeRes; split
  · assumption
  · simp only [evaluate_res]; cases h <;> rfl

/-! ### Channels and the beacon -/

@[simp] theorem startDeadTime_cfg (i : Fin 24) (s : State) : (startDeadTime i s).cfg = s.cfg := by
  unfold startDeadTime; split <;> rfl
@[simp] theorem startDeadTime_nv (i : Fin 24) (s : State) : (startDeadTime i s).nv = s.nv := by
  unfold startDeadTime; split <;> rfl
@[simp] theorem startDeadTime_beacon (i : Fin 24) (s : State) : (startDeadTime i s).beacon = s.beacon := by
  unfold startDeadTime; split <;> rfl
@[simp] theorem startDeadTime_scene (i : Fin 24) (s : State) : (startDeadTime i s).scene = s.scene := by
  unfold startDeadTime; split <;> rfl
@[simp] theorem startDeadTime_inp (i : Fin 24) (s : State) : (startDeadTime i s).inp = s.inp := by
  unfold startDeadTime; split <;> rfl
@[simp] theorem startDeadTime_vessel (i : Fin 24) (s : State) : (startDeadTime i s).vessel = s.vessel := by
  unfold startDeadTime; split <;> rfl
@[simp] theorem startDeadTime_stern (i : Fin 24) (s : State) : (startDeadTime i s).stern = s.stern := by
  unfold startDeadTime; split <;> rfl
@[simp] theorem startDeadTime_wl (i : Fin 24) (s : State) : (startDeadTime i s).wl = s.wl := by
  unfold startDeadTime; split <;> rfl
@[simp] theorem startDeadTime_panel (i : Fin 24) (s : State) : (startDeadTime i s).panel = s.panel := by
  unfold startDeadTime; split <;> rfl
@[simp] theorem startDeadTime_bind (i : Fin 24) (s : State) : (startDeadTime i s).bind = s.bind := by
  unfold startDeadTime; split <;> rfl
@[simp] theorem startDeadTime_dev (i : Fin 24) (s : State) : (startDeadTime i s).dev = s.dev := by
  unfold startDeadTime; split <;> rfl
@[simp] theorem startDeadTime_pending (i : Fin 24) (s : State) : (startDeadTime i s).pending = s.pending := by
  unfold startDeadTime; split <;> rfl
@[simp] theorem startDeadTime_link (i : Fin 24) (s : State) : (startDeadTime i s).link = s.link := by
  unfold startDeadTime; split <;> rfl
@[simp] theorem startDeadTime_budget (i : Fin 24) (s : State) : (startDeadTime i s).budget = s.budget := by
  unfold startDeadTime; split <;> rfl
@[simp] theorem startDeadTime_axis (i : Fin 24) (s : State) (a : AxisId) : (startDeadTime i s).axis a = s.axis a := by
  cases a <;> simp [State.axis]
@[simp] theorem levelTo_cfg (i : Fin 24) (l : Nat) (s : State) : (levelTo i l s).cfg = s.cfg := by
  unfold levelTo; simp only []; (repeat (any_goals split)) <;> simp
@[simp] theorem levelTo_nv (i : Fin 24) (l : Nat) (s : State) : (levelTo i l s).nv = s.nv := by
  unfold levelTo; simp only []; (repeat (any_goals split)) <;> simp
@[simp] theorem levelTo_beacon (i : Fin 24) (l : Nat) (s : State) : (levelTo i l s).beacon = s.beacon := by
  unfold levelTo; simp only []; (repeat (any_goals split)) <;> simp
@[simp] theorem levelTo_scene (i : Fin 24) (l : Nat) (s : State) : (levelTo i l s).scene = s.scene := by
  unfold levelTo; simp only []; (repeat (any_goals split)) <;> simp
@[simp] theorem levelTo_inp (i : Fin 24) (l : Nat) (s : State) : (levelTo i l s).inp = s.inp := by
  unfold levelTo; simp only []; (repeat (any_goals split)) <;> simp
@[simp] theorem levelTo_vessel (i : Fin 24) (l : Nat) (s : State) : (levelTo i l s).vessel = s.vessel := by
  unfold levelTo; simp only []; (repeat (any_goals split)) <;> simp
@[simp] theorem levelTo_stern (i : Fin 24) (l : Nat) (s : State) : (levelTo i l s).stern = s.stern := by
  unfold levelTo; simp only []; (repeat (any_goals split)) <;> simp
@[simp] theorem levelTo_wl (i : Fin 24) (l : Nat) (s : State) : (levelTo i l s).wl = s.wl := by
  unfold levelTo; simp only []; (repeat (any_goals split)) <;> simp
@[simp] theorem levelTo_panel (i : Fin 24) (l : Nat) (s : State) : (levelTo i l s).panel = s.panel := by
  unfold levelTo; simp only []; (repeat (any_goals split)) <;> simp
@[simp] theorem levelTo_bind (i : Fin 24) (l : Nat) (s : State) : (levelTo i l s).bind = s.bind := by
  unfold levelTo; simp only []; (repeat (any_goals split)) <;> simp
@[simp] theorem levelTo_dev (i : Fin 24) (l : Nat) (s : State) : (levelTo i l s).dev = s.dev := by
  unfold levelTo; simp only []; (repeat (any_goals split)) <;> simp
@[simp] theorem levelTo_pending (i : Fin 24) (l : Nat) (s : State) : (levelTo i l s).pending = s.pending := by
  unfold levelTo; simp only []; (repeat (any_goals split)) <;> simp
@[simp] theorem levelTo_link_device (i : Fin 24) (l : Nat) (s : State) :
    (levelTo i l s).link.device = s.link.device := by unfold levelTo; simp only []; (repeat (any_goals split)) <;> simp
@[simp] theorem levelTo_link_rx (i : Fin 24) (l : Nat) (s : State) :
    (levelTo i l s).link.rx = s.link.rx := by unfold levelTo; simp only []; (repeat (any_goals split)) <;> simp
@[simp] theorem levelTo_link_requests (i : Fin 24) (l : Nat) (s : State) :
    (levelTo i l s).link.requests = s.link.requests := by unfold levelTo; simp only []; (repeat (any_goals split)) <;> simp
@[simp] theorem levelTo_link_replies (i : Fin 24) (l : Nat) (s : State) :
    (levelTo i l s).link.replies = s.link.replies := by unfold levelTo; simp only []; (repeat (any_goals split)) <;> simp
@[simp] theorem levelTo_link_sending (i : Fin 24) (l : Nat) (s : State) :
    (levelTo i l s).link.sending = s.link.sending := by unfold levelTo; simp only []; (repeat (any_goals split)) <;> simp
@[simp] theorem levelTo_link_enabled (i : Fin 24) (l : Nat) (s : State) :
    (levelTo i l s).link.enabled = s.link.enabled := by unfold levelTo; simp only []; (repeat (any_goals split)) <;> simp
@[simp] theorem levelTo_link_supervision (i : Fin 24) (l : Nat) (s : State) :
    (levelTo i l s).link.supervision = s.link.supervision := by unfold levelTo; simp only []; (repeat (any_goals split)) <;> simp
@[simp] theorem levelTo_link_aloneMs (i : Fin 24) (l : Nat) (s : State) :
    (levelTo i l s).link.aloneMs = s.link.aloneMs := by unfold levelTo; simp only []; (repeat (any_goals split)) <;> simp
@[simp] theorem levelTo_link_wasLinked (i : Fin 24) (l : Nat) (s : State) :
    (levelTo i l s).link.wasLinked = s.link.wasLinked := by unfold levelTo; simp only []; (repeat (any_goals split)) <;> simp
@[simp] theorem levelTo_link_resetReply (i : Fin 24) (l : Nat) (s : State) :
    (levelTo i l s).link.resetReply = s.link.resetReply := by unfold levelTo; simp only []; (repeat (any_goals split)) <;> simp
@[simp] theorem levelTo_axis (i : Fin 24) (l : Nat) (s : State) (a : AxisId) : (levelTo i l s).axis a = s.axis a := by
  cases a <;> simp [State.axis]
@[simp] theorem driveBeacon_cfg (s : State) : (driveBeacon s).cfg = s.cfg := by
  unfold driveBeacon; split <;> simp
@[simp] theorem driveBeacon_nv (s : State) : (driveBeacon s).nv = s.nv := by
  unfold driveBeacon; split <;> simp
@[simp] theorem driveBeacon_beacon (s : State) : (driveBeacon s).beacon = s.beacon := by
  unfold driveBeacon; split <;> simp
@[simp] theorem driveBeacon_scene (s : State) : (driveBeacon s).scene = s.scene := by
  unfold driveBeacon; split <;> simp
@[simp] theorem driveBeacon_inp (s : State) : (driveBeacon s).inp = s.inp := by
  unfold driveBeacon; split <;> simp
@[simp] theorem driveBeacon_vessel (s : State) : (driveBeacon s).vessel = s.vessel := by
  unfold driveBeacon; split <;> simp
@[simp] theorem driveBeacon_stern (s : State) : (driveBeacon s).stern = s.stern := by
  unfold driveBeacon; split <;> simp
@[simp] theorem driveBeacon_wl (s : State) : (driveBeacon s).wl = s.wl := by
  unfold driveBeacon; split <;> simp
@[simp] theorem driveBeacon_panel (s : State) : (driveBeacon s).panel = s.panel := by
  unfold driveBeacon; split <;> simp
@[simp] theorem driveBeacon_bind (s : State) : (driveBeacon s).bind = s.bind := by
  unfold driveBeacon; split <;> simp
@[simp] theorem driveBeacon_dev (s : State) : (driveBeacon s).dev = s.dev := by
  unfold driveBeacon; split <;> simp
@[simp] theorem driveBeacon_pending (s : State) : (driveBeacon s).pending = s.pending := by
  unfold driveBeacon; split <;> simp
@[simp] theorem driveBeacon_link_device (s : State) :
    (driveBeacon s).link.device = s.link.device := by unfold driveBeacon; split <;> simp
@[simp] theorem driveBeacon_link_rx (s : State) :
    (driveBeacon s).link.rx = s.link.rx := by unfold driveBeacon; split <;> simp
@[simp] theorem driveBeacon_link_requests (s : State) :
    (driveBeacon s).link.requests = s.link.requests := by unfold driveBeacon; split <;> simp
@[simp] theorem driveBeacon_link_replies (s : State) :
    (driveBeacon s).link.replies = s.link.replies := by unfold driveBeacon; split <;> simp
@[simp] theorem driveBeacon_link_sending (s : State) :
    (driveBeacon s).link.sending = s.link.sending := by unfold driveBeacon; split <;> simp
@[simp] theorem driveBeacon_link_enabled (s : State) :
    (driveBeacon s).link.enabled = s.link.enabled := by unfold driveBeacon; split <;> simp
@[simp] theorem driveBeacon_link_supervision (s : State) :
    (driveBeacon s).link.supervision = s.link.supervision := by unfold driveBeacon; split <;> simp
@[simp] theorem driveBeacon_link_aloneMs (s : State) :
    (driveBeacon s).link.aloneMs = s.link.aloneMs := by unfold driveBeacon; split <;> simp
@[simp] theorem driveBeacon_link_wasLinked (s : State) :
    (driveBeacon s).link.wasLinked = s.link.wasLinked := by unfold driveBeacon; split <;> simp
@[simp] theorem driveBeacon_link_resetReply (s : State) :
    (driveBeacon s).link.resetReply = s.link.resetReply := by unfold driveBeacon; split <;> simp
@[simp] theorem driveBeacon_axis (s : State) (a : AxisId) : (driveBeacon s).axis a = s.axis a := by
  cases a <;> simp [State.axis]
@[simp] theorem beaconUpdate_cfg (s : State) : (beaconUpdate s).cfg = s.cfg := by
  unfold beaconUpdate; (repeat (any_goals split)) <;> simp
@[simp] theorem beaconUpdate_nv (s : State) : (beaconUpdate s).nv = s.nv := by
  unfold beaconUpdate; (repeat (any_goals split)) <;> simp
@[simp] theorem beaconUpdate_scene (s : State) : (beaconUpdate s).scene = s.scene := by
  unfold beaconUpdate; (repeat (any_goals split)) <;> simp
@[simp] theorem beaconUpdate_inp (s : State) : (beaconUpdate s).inp = s.inp := by
  unfold beaconUpdate; (repeat (any_goals split)) <;> simp
@[simp] theorem beaconUpdate_vessel (s : State) : (beaconUpdate s).vessel = s.vessel := by
  unfold beaconUpdate; (repeat (any_goals split)) <;> simp
@[simp] theorem beaconUpdate_stern (s : State) : (beaconUpdate s).stern = s.stern := by
  unfold beaconUpdate; (repeat (any_goals split)) <;> simp
@[simp] theorem beaconUpdate_wl (s : State) : (beaconUpdate s).wl = s.wl := by
  unfold beaconUpdate; (repeat (any_goals split)) <;> simp
@[simp] theorem beaconUpdate_panel (s : State) : (beaconUpdate s).panel = s.panel := by
  unfold beaconUpdate; (repeat (any_goals split)) <;> simp
@[simp] theorem beaconUpdate_bind (s : State) : (beaconUpdate s).bind = s.bind := by
  unfold beaconUpdate; (repeat (any_goals split)) <;> simp
@[simp] theorem beaconUpdate_dev (s : State) : (beaconUpdate s).dev = s.dev := by
  unfold beaconUpdate; (repeat (any_goals split)) <;> simp
@[simp] theorem beaconUpdate_pending (s : State) : (beaconUpdate s).pending = s.pending := by
  unfold beaconUpdate; (repeat (any_goals split)) <;> simp
@[simp] theorem beaconUpdate_link_device (s : State) :
    (beaconUpdate s).link.device = s.link.device := by unfold beaconUpdate; (repeat (any_goals split)) <;> simp
@[simp] theorem beaconUpdate_link_rx (s : State) :
    (beaconUpdate s).link.rx = s.link.rx := by unfold beaconUpdate; (repeat (any_goals split)) <;> simp
@[simp] theorem beaconUpdate_link_requests (s : State) :
    (beaconUpdate s).link.requests = s.link.requests := by unfold beaconUpdate; (repeat (any_goals split)) <;> simp
@[simp] theorem beaconUpdate_link_replies (s : State) :
    (beaconUpdate s).link.replies = s.link.replies := by unfold beaconUpdate; (repeat (any_goals split)) <;> simp
@[simp] theorem beaconUpdate_link_sending (s : State) :
    (beaconUpdate s).link.sending = s.link.sending := by unfold beaconUpdate; (repeat (any_goals split)) <;> simp
@[simp] theorem beaconUpdate_link_enabled (s : State) :
    (beaconUpdate s).link.enabled = s.link.enabled := by unfold beaconUpdate; (repeat (any_goals split)) <;> simp
@[simp] theorem beaconUpdate_link_supervision (s : State) :
    (beaconUpdate s).link.supervision = s.link.supervision := by unfold beaconUpdate; (repeat (any_goals split)) <;> simp
@[simp] theorem beaconUpdate_link_aloneMs (s : State) :
    (beaconUpdate s).link.aloneMs = s.link.aloneMs := by unfold beaconUpdate; (repeat (any_goals split)) <;> simp
@[simp] theorem beaconUpdate_link_wasLinked (s : State) :
    (beaconUpdate s).link.wasLinked = s.link.wasLinked := by unfold beaconUpdate; (repeat (any_goals split)) <;> simp
@[simp] theorem beaconUpdate_link_resetReply (s : State) :
    (beaconUpdate s).link.resetReply = s.link.resetReply := by unfold beaconUpdate; (repeat (any_goals split)) <;> simp
@[simp] theorem beaconUpdate_axis (s : State) (a : AxisId) : (beaconUpdate s).axis a = s.axis a := by
  cases a <;> simp [State.axis]

/-! ### Holdings -/

@[simp] theorem joinFast_cfg (p : Fin 32) (s : State) : (joinFast p s).cfg = s.cfg := by
  unfold joinFast; split <;> rfl
@[simp] theorem joinFast_nv (p : Fin 32) (s : State) : (joinFast p s).nv = s.nv := by
  unfold joinFast; split <;> rfl
@[simp] theorem joinFast_beacon (p : Fin 32) (s : State) : (joinFast p s).beacon = s.beacon := by
  unfold joinFast; split <;> rfl
@[simp] theorem joinFast_scene (p : Fin 32) (s : State) : (joinFast p s).scene = s.scene := by
  unfold joinFast; split <;> rfl
@[simp] theorem joinFast_inp (p : Fin 32) (s : State) : (joinFast p s).inp = s.inp := by
  unfold joinFast; split <;> rfl
@[simp] theorem joinFast_vessel (p : Fin 32) (s : State) : (joinFast p s).vessel = s.vessel := by
  unfold joinFast; split <;> rfl
@[simp] theorem joinFast_stern (p : Fin 32) (s : State) : (joinFast p s).stern = s.stern := by
  unfold joinFast; split <;> rfl
@[simp] theorem joinFast_wl (p : Fin 32) (s : State) : (joinFast p s).wl = s.wl := by
  unfold joinFast; split <;> rfl
@[simp] theorem joinFast_bind (p : Fin 32) (s : State) : (joinFast p s).bind = s.bind := by
  unfold joinFast; split <;> rfl
@[simp] theorem joinFast_dev (p : Fin 32) (s : State) : (joinFast p s).dev = s.dev := by
  unfold joinFast; split <;> rfl
@[simp] theorem joinFast_pending (p : Fin 32) (s : State) : (joinFast p s).pending = s.pending := by
  unfold joinFast; split <;> rfl
@[simp] theorem joinFast_link (p : Fin 32) (s : State) : (joinFast p s).link = s.link := by
  unfold joinFast; split <;> rfl
@[simp] theorem joinFast_budget (p : Fin 32) (s : State) : (joinFast p s).budget = s.budget := by
  unfold joinFast; split <;> rfl
@[simp] theorem joinFast_chan (p : Fin 32) (s : State) : (joinFast p s).chan = s.chan := by
  unfold joinFast; split <;> rfl
@[simp] theorem joinFast_axis (p : Fin 32) (s : State) (a : AxisId) : (joinFast p s).axis a = s.axis a := by
  cases a <;> simp [State.axis]
@[simp] theorem leaveFast_cfg (p : Fin 32) (s : State) : (leaveFast p s).cfg = s.cfg := by
  unfold leaveFast; split <;> rfl
@[simp] theorem leaveFast_nv (p : Fin 32) (s : State) : (leaveFast p s).nv = s.nv := by
  unfold leaveFast; split <;> rfl
@[simp] theorem leaveFast_beacon (p : Fin 32) (s : State) : (leaveFast p s).beacon = s.beacon := by
  unfold leaveFast; split <;> rfl
@[simp] theorem leaveFast_scene (p : Fin 32) (s : State) : (leaveFast p s).scene = s.scene := by
  unfold leaveFast; split <;> rfl
@[simp] theorem leaveFast_inp (p : Fin 32) (s : State) : (leaveFast p s).inp = s.inp := by
  unfold leaveFast; split <;> rfl
@[simp] theorem leaveFast_vessel (p : Fin 32) (s : State) : (leaveFast p s).vessel = s.vessel := by
  unfold leaveFast; split <;> rfl
@[simp] theorem leaveFast_stern (p : Fin 32) (s : State) : (leaveFast p s).stern = s.stern := by
  unfold leaveFast; split <;> rfl
@[simp] theorem leaveFast_wl (p : Fin 32) (s : State) : (leaveFast p s).wl = s.wl := by
  unfold leaveFast; split <;> rfl
@[simp] theorem leaveFast_bind (p : Fin 32) (s : State) : (leaveFast p s).bind = s.bind := by
  unfold leaveFast; split <;> rfl
@[simp] theorem leaveFast_dev (p : Fin 32) (s : State) : (leaveFast p s).dev = s.dev := by
  unfold leaveFast; split <;> rfl
@[simp] theorem leaveFast_pending (p : Fin 32) (s : State) : (leaveFast p s).pending = s.pending := by
  unfold leaveFast; split <;> rfl
@[simp] theorem leaveFast_link (p : Fin 32) (s : State) : (leaveFast p s).link = s.link := by
  unfold leaveFast; split <;> rfl
@[simp] theorem leaveFast_budget (p : Fin 32) (s : State) : (leaveFast p s).budget = s.budget := by
  unfold leaveFast; split <;> rfl
@[simp] theorem leaveFast_chan (p : Fin 32) (s : State) : (leaveFast p s).chan = s.chan := by
  unfold leaveFast; split <;> rfl
@[simp] theorem leaveFast_axis (p : Fin 32) (s : State) (a : AxisId) : (leaveFast p s).axis a = s.axis a := by
  cases a <;> simp [State.axis]
@[simp] theorem beginHolding_cfg (ad k : Nat) (x : HoldSubject) (s : State) : (beginHolding ad k x s).cfg = s.cfg := by
  unfold beginHolding; simp only []; (repeat (any_goals split)) <;> simp
@[simp] theorem beginHolding_nv (ad k : Nat) (x : HoldSubject) (s : State) : (beginHolding ad k x s).nv = s.nv := by
  unfold beginHolding; simp only []; (repeat (any_goals split)) <;> simp
@[simp] theorem beginHolding_beacon (ad k : Nat) (x : HoldSubject) (s : State) : (beginHolding ad k x s).beacon = s.beacon := by
  unfold beginHolding; simp only []; (repeat (any_goals split)) <;> simp
@[simp] theorem beginHolding_scene (ad k : Nat) (x : HoldSubject) (s : State) : (beginHolding ad k x s).scene = s.scene := by
  unfold beginHolding; simp only []; (repeat (any_goals split)) <;> simp
@[simp] theorem beginHolding_inp (ad k : Nat) (x : HoldSubject) (s : State) : (beginHolding ad k x s).inp = s.inp := by
  unfold beginHolding; simp only []; (repeat (any_goals split)) <;> simp
@[simp] theorem beginHolding_vessel (ad k : Nat) (x : HoldSubject) (s : State) : (beginHolding ad k x s).vessel = s.vessel := by
  unfold beginHolding; simp only []; (repeat (any_goals split)) <;> simp
@[simp] theorem beginHolding_stern (ad k : Nat) (x : HoldSubject) (s : State) : (beginHolding ad k x s).stern = s.stern := by
  unfold beginHolding; simp only []; (repeat (any_goals split)) <;> simp
@[simp] theorem beginHolding_wl (ad k : Nat) (x : HoldSubject) (s : State) : (beginHolding ad k x s).wl = s.wl := by
  unfold beginHolding; simp only []; (repeat (any_goals split)) <;> simp
@[simp] theorem beginHolding_bind (ad k : Nat) (x : HoldSubject) (s : State) : (beginHolding ad k x s).bind = s.bind := by
  unfold beginHolding; simp only []; (repeat (any_goals split)) <;> simp
@[simp] theorem beginHolding_dev (ad k : Nat) (x : HoldSubject) (s : State) : (beginHolding ad k x s).dev = s.dev := by
  unfold beginHolding; simp only []; (repeat (any_goals split)) <;> simp
@[simp] theorem beginHolding_pending (ad k : Nat) (x : HoldSubject) (s : State) : (beginHolding ad k x s).pending = s.pending := by
  unfold beginHolding; simp only []; (repeat (any_goals split)) <;> simp
@[simp] theorem beginHolding_link (ad k : Nat) (x : HoldSubject) (s : State) : (beginHolding ad k x s).link = s.link := by
  unfold beginHolding; simp only []; (repeat (any_goals split)) <;> simp
@[simp] theorem beginHolding_budget (ad k : Nat) (x : HoldSubject) (s : State) : (beginHolding ad k x s).budget = s.budget := by
  unfold beginHolding; simp only []; (repeat (any_goals split)) <;> simp
@[simp] theorem beginHolding_chan (ad k : Nat) (x : HoldSubject) (s : State) : (beginHolding ad k x s).chan = s.chan := by
  unfold beginHolding; simp only []; (repeat (any_goals split)) <;> simp
@[simp] theorem beginHolding_axis (ad k : Nat) (x : HoldSubject) (s : State) (a : AxisId) : (beginHolding ad k x s).axis a = s.axis a := by
  cases a <;> simp [State.axis]
@[simp] theorem endHolding_cfg (ad k : Nat) (x : HoldSubject) (s : State) : (endHolding ad k x s).cfg = s.cfg := by
  unfold endHolding; simp only []; (repeat (any_goals split)) <;> simp
@[simp] theorem endHolding_nv (ad k : Nat) (x : HoldSubject) (s : State) : (endHolding ad k x s).nv = s.nv := by
  unfold endHolding; simp only []; (repeat (any_goals split)) <;> simp
@[simp] theorem endHolding_beacon (ad k : Nat) (x : HoldSubject) (s : State) : (endHolding ad k x s).beacon = s.beacon := by
  unfold endHolding; simp only []; (repeat (any_goals split)) <;> simp
@[simp] theorem endHolding_scene (ad k : Nat) (x : HoldSubject) (s : State) : (endHolding ad k x s).scene = s.scene := by
  unfold endHolding; simp only []; (repeat (any_goals split)) <;> simp
@[simp] theorem endHolding_inp (ad k : Nat) (x : HoldSubject) (s : State) : (endHolding ad k x s).inp = s.inp := by
  unfold endHolding; simp only []; (repeat (any_goals split)) <;> simp
@[simp] theorem endHolding_vessel (ad k : Nat) (x : HoldSubject) (s : State) : (endHolding ad k x s).vessel = s.vessel := by
  unfold endHolding; simp only []; (repeat (any_goals split)) <;> simp
@[simp] theorem endHolding_stern (ad k : Nat) (x : HoldSubject) (s : State) : (endHolding ad k x s).stern = s.stern := by
  unfold endHolding; simp only []; (repeat (any_goals split)) <;> simp
@[simp] theorem endHolding_wl (ad k : Nat) (x : HoldSubject) (s : State) : (endHolding ad k x s).wl = s.wl := by
  unfold endHolding; simp only []; (repeat (any_goals split)) <;> simp
@[simp] theorem endHolding_bind (ad k : Nat) (x : HoldSubject) (s : State) : (endHolding ad k x s).bind = s.bind := by
  unfold endHolding; simp only []; (repeat (any_goals split)) <;> simp
@[simp] theorem endHolding_dev (ad k : Nat) (x : HoldSubject) (s : State) : (endHolding ad k x s).dev = s.dev := by
  unfold endHolding; simp only []; (repeat (any_goals split)) <;> simp
@[simp] theorem endHolding_pending (ad k : Nat) (x : HoldSubject) (s : State) : (endHolding ad k x s).pending = s.pending := by
  unfold endHolding; simp only []; (repeat (any_goals split)) <;> simp
@[simp] theorem endHolding_link (ad k : Nat) (x : HoldSubject) (s : State) : (endHolding ad k x s).link = s.link := by
  unfold endHolding; simp only []; (repeat (any_goals split)) <;> simp
@[simp] theorem endHolding_budget (ad k : Nat) (x : HoldSubject) (s : State) : (endHolding ad k x s).budget = s.budget := by
  unfold endHolding; simp only []; (repeat (any_goals split)) <;> simp
@[simp] theorem endHolding_chan (ad k : Nat) (x : HoldSubject) (s : State) : (endHolding ad k x s).chan = s.chan := by
  unfold endHolding; simp only []; (repeat (any_goals split)) <;> simp
@[simp] theorem endHolding_axis (ad k : Nat) (x : HoldSubject) (s : State) (a : AxisId) : (endHolding ad k x s).axis a = s.axis a := by
  cases a <;> simp [State.axis]

/-! ### Admission (R28, R29, R95) -/

/-- All that an admission test can answer. -/
theorem requestNew_ok {h : ResHolder} {a : Nat} {s t : State} (e : requestNew h a s = .ok t) :
    s.budget.supply = .normal ∧ s.reserveFits h a = true ∧ t = evaluate (s.setRes h (some a)) := by
  unfold requestNew at e
  split at e
  · exact nomatch e
  · split at e
    · rename_i hs hf
      exact ⟨Decidable.not_not.mp hs, hf, (Except.ok.inj e).symm⟩
    · exact nomatch e

/-- A request for a reservation that is taken leaves the state, or the amount held with its evaluation run. -/
theorem reserveFor_ok {h : ResHolder} {a : Nat} {s t : State} (e : reserveFor h a s = .ok t) :
    t = s ∨ t = evaluate (s.setRes h (some a)) := by
  unfold reserveFor at e
  split at e
  · split at e
    · exact .inl (Except.ok.inj e).symm
    · split at e
      · exact .inr (Except.ok.inj e).symm
      · exact .inr (requestNew_ok e).2.2
  · exact .inr (requestNew_ok e).2.2

/-! ### What is due, and what the bus takes -/

theorem mem_due {b : Bool} {c i : Instr} : c ∈ due b i ↔ b = true ∧ c = i := by
  cases b <;> simp [due]

theorem hasReached_iff {t : Option Nat} {n : Nat} : hasReached t n = true ↔ ∃ ms, t = some ms ∧ n ≤ ms := by
  cases t <;> simp [hasReached, reached]

@[simp] theorem slotOver_iff (s : State) : s.slotOver = true ↔ ∀ ms, s.panel.slotMs = some ms → 5 ≤ ms := by
  unfold State.slotOver; cases s.panel.slotMs <;> simp [reached]

theorem slotOver_running {s : State} {ms : Nat} (h : s.panel.slotMs = some ms) (hm : ms < 5) :
    s.slotOver = false := by simp [State.slotOver, reached, h, hm]

/-- Within its slot an answer is only heard (R155). -/
theorem takeAnswer_within (off : Offer) (kind : AnswerKind) (f : List Byte) {s : State} {c : Call}
    (hc : s.panel.call = some c) (ho : s.slotOver = false) : takeAnswer off kind f s = hearAnswer kind f c s := by
  simp [takeAnswer, hc, ho]

/-- Within its slot an answer moves nothing but what the call has brought (R155). -/
theorem hearAnswer_panel (kind : AnswerKind) (f : List Byte) (c : Call) (s : State) :
    hearAnswer kind f c s = s ∨ ∃ a, hearAnswer kind f c s = s.noteAnswer c a := by
  unfold hearAnswer
  by_cases h : c.answer ≠ .awaited ∨ frameKind f ≠ kind.code ∨ s.answerEarly c f.length = true
  · rw [if_pos h]; exact .inl rfl
  · rw [if_neg h]; exact .inr ⟨_, rfl⟩

/-- As its slot ends, the answer that has come is judged (R155). -/
theorem takeAnswer_over (off : Offer) {kind : AnswerKind} {f : List Byte} {s : State} {c : Call}
    (hc : s.panel.call = some c) (ho : s.slotOver = true) (ha : c.answer = .came kind f) :
    takeAnswer off kind f s = judgeFrame off c f s.closeCall := by
  simp only [takeAnswer, hc, ho, ha]; rfl

/-- As its slot ends, a call without an answer is a miss (R147, R155). -/
theorem answerMissed_over (off : Offer) {s : State} {c : Call} (hc : s.panel.call = some c)
    (ho : s.slotOver = true) (ha : c.answer = .awaited ∨ c.answer = .missed) :
    answerMissed off s = missCall off c s.closeCall := by
  rcases ha with h | h <;> simp only [answerMissed, hc, ho, h] <;> rfl

end Sys2Proof.Machine
end

