-- ==== Sys2Proof/Laws/Beacon.lean ====
section
/-! SUPPORT. The beacon and the machinery (R16, R17), and the count cell's range (R209): what each shared operation
leaves, said once. -/

namespace Sys2Proof.Machine

/-! ### The beacon -/

/-- The beacon's own part of `BeaconAgrees`: it blinks while its active mark is set and while the stretch timer runs,
which never both are. -/
def Beacon.WellKept (b : Beacon) : Prop :=
  b.blinking = (b.active || b.stretch.isSome) ∧ (b.active = true → b.stretch = none)

theorem State.BeaconAgrees.wellKept {s : State} (h : s.BeaconAgrees) : s.beacon.WellKept := ⟨h.blinks, h.stretch⟩

/-- Whether machinery moves is a matter of the stern and windlass records alone. -/
theorem beaconActive_congr {s t : State} (hs : t.stern = s.stern) (hw : t.wl = s.wl) :
    t.beaconActive = s.beaconActive := by
  simp [State.beaconActive, hs, hw]

@[simp] theorem beaconUpdate_beaconActive (s : State) : (beaconUpdate s).beaconActive = s.beaconActive :=
  beaconActive_congr (by simp) (by simp)

/-- After `beaconUpdate` the active mark agrees with the machinery, whatever it was before. -/
theorem beaconUpdate_active (s : State) : (beaconUpdate s).beacon.active = s.beaconActive := by
  unfold beaconUpdate
  (repeat (any_goals split)) <;> simp_all

/-- `beaconUpdate` keeps the beacon's own part. -/
theorem beaconUpdate_wellKept {s : State} (h : s.beacon.WellKept) : (beaconUpdate s).beacon.WellKept := by
  revert h
  unfold beaconUpdate
  (repeat (any_goals split)) <;> simp_all [Beacon.WellKept]

/-- A change of the machinery that `beaconUpdate` closes leaves the beacon in agreement. -/
theorem beaconUpdate_agrees {s : State} (h : s.beacon.WellKept) : (beaconUpdate s).BeaconAgrees :=
  ⟨by simp [beaconUpdate_active], (beaconUpdate_wellKept h).1, (beaconUpdate_wellKept h).2⟩

/-- A command that leaves the beacon, the axes and the windlass as they were keeps the agreement. -/
theorem State.BeaconAgrees.congr {s t : State} (h : s.BeaconAgrees) (hb : t.beacon = s.beacon)
    (ha : t.beaconActive = s.beaconActive) : t.BeaconAgrees :=
  ⟨by rw [hb, ha, h.active], by rw [hb, h.blinks], by rw [hb]; exact h.stretch⟩

theorem axisTo_agrees (a : AxisId) (st : AxState) {s : State} (h : s.beacon.WellKept) :
    (axisTo a st s).BeaconAgrees :=
  beaconUpdate_agrees (by cases a <;> simpa [judgeClear, State.modAxis, State.setAxis] using h)

theorem wlTo_agrees (w : Windlass) {s : State} (h : s.beacon.WellKept) : (wlTo w s).BeaconAgrees :=
  beaconUpdate_agrees (by simpa [State.setWl] using h)

/-! ### The count cell -/

/-- A slot that is valid holds a count within 0..9999. -/
theorem validSlot_eq_some {o : Option CellSlot} {c : CellSlot} :
    validSlot o = some c ↔ o = some c ∧ c.count ≤ 9999 := by
  simp [validSlot, Option.filter_eq_some_iff]

/-- The newest slot is a valid one. -/
theorem newestSlot_valid {a b : Option CellSlot} {newest : Bool} (h : newestSlot a b = some newest) :
    (validSlot (if newest then a else b)).isSome := by
  unfold newestSlot at h
  split at h <;> simp_all
  split <;> simp_all

/-- The count that the cell gives lies within 0..9999. -/
theorem cellCount_le {n : Nv} {c : Nat} (h : cellCount n = some c) : c ≤ 9999 := by
  unfold cellCount at h
  split at h
  · simp at h
  all_goals
    have hv := newestSlot_valid (by assumption)
    obtain ⟨x, hx⟩ := Option.isSome_iff_exists.mp hv
    obtain ⟨hx, hc⟩ := validSlot_eq_some.mp hx
    simp_all

end Sys2Proof.Machine
end

