-- ==== Sys2Proof/Laws/InputChanges.lean ====
section
/-! SUPPORT. What a change of an input, or a value of an analog input, leaves as it was: everything of the
still part but the active source, the supply state and the model's count of races. -/

namespace Sys2Proof.Machine

/-- The still part without what the readers of the inputs change. -/
def State.outer (s : State) : State :=
  { s.still with
    budget := {}
    vessel := { s.still.vessel with active := .battery }
    dev := { s.still.dev with races := 0 } }

/-- An equal still part gives an equal outer part. -/
theorem outer_of_still {s t : State} (h : t.still = s.still) : t.outer = s.outer := by
  simp only [State.outer, h]

section Projections
variable {s t : State} (h : t.outer = s.outer)
include h
theorem outer_cfg : t.cfg = s.cfg := by simpa [State.outer, State.still] using congrArg State.cfg h
theorem outer_inp : t.inp = s.inp := by simpa [State.outer, State.still] using congrArg State.inp h
theorem outer_pending : t.pending = s.pending := by
  simpa [State.outer, State.still] using congrArg State.pending h
theorem outer_device : t.link.device = s.link.device := (congrArg (fun x : State => x.link.device) h :)
theorem outer_starting : t.starting = s.starting := by simp [State.starting, outer_device h]
theorem outer_uptime : t.dev.uptime = s.dev.uptime := (congrArg (fun x : State => x.dev.uptime) h :)
theorem outer_fresh : t.vessel.fresh = s.vessel.fresh := (congrArg (fun x : State => x.vessel.fresh) h :)
theorem outer_replies : t.link.replies = s.link.replies := (congrArg (fun x : State => x.link.replies) h :)
theorem outer_requests : t.link.requests = s.link.requests := (congrArg (fun x : State => x.link.requests) h :)
end Projections

theorem deriveSource_outer (c : Nat) (s : State) : (deriveSource c s).outer = s.outer := by
  unfold deriveSource
  split
  · rfl
  · simp only [State.outer, notice_still, evaluate_still]; rfl
theorem judgeReading_outer (v : Nat) (s : State) : (judgeReading v s).outer = s.outer := by
  unfold judgeReading; (repeat (any_goals split)) <;> rfl
theorem setSupply_outer (x : SupplyState) (s : State) : (s.setSupply x).outer = s.outer := rfl
theorem supplySensorLost_outer (s : State) : (supplySensorLost s).outer = s.outer := by
  unfold supplySensorLost
  simp only []
  split <;> simp only [State.outer, notice_still, evaluate_still] <;> rfl
theorem supplyTaken_outer (s : State) : (supplyTaken s).outer = s.outer := by
  unfold supplyTaken
  split
  · exact supplySensorLost_outer s
  · exact judgeReading_outer _ _

section
variable {off : Offer} (ho : StillOffer off)
include ho

theorem readRole_outer (r : DiRole) (on : Bool) (s : State) : (readRole off r on s).outer = s.outer := by
  cases r <;> simp only [readRole] <;> (try split) <;> first
    | rfl
    | exact deriveSource_outer _ _
    | exact outer_of_still (footInput_still ho ..)
    | exact outer_of_still (anchorHome_still ho ..)
    | exact outer_of_still ((settleSeq_still ho _).trans (stowInput_still ho ..))
    | exact outer_of_still ((settleSeq_still ho _).trans (outInput_still ho ..))
    | exact outer_of_still ((settleSeq_still ho _).trans (latchInput_still ho ..))
    | exact outer_of_still ((settleSeq_still ho _).trans (tenderInput_still ho ..))

theorem race_outer (c : List Change) (m : State → State) (hm : ∀ s, (m s).outer = s.outer) (s : State) :
    (race off c m s).outer = s.outer := by
  have hr : ∀ s, (recheck off c s).outer = s.outer := fun s => outer_of_still (recheck_still ho c s)
  unfold race
  simp only []
  (repeat (any_goals split))
  · rw [hm, hr]; rfl
  · rw [hr, hm]; rfl
  · rw [hr, hm]

theorem takeInput_outer (n : Fin 16) (on : Bool) (s : State) : (takeInput off n on s).outer = s.outer := by
  unfold takeInput
  simp only []
  split
  · rw [outer_of_still (recheck_still ho ..), readRole_outer ho]
  · exact race_outer ho _ _ (fun s => readRole_outer ho _ _ s) s

theorem handOn_outer (n : Fin 16) (on : Bool) (x : Note) (v : List Int) (s : State) :
    (handOn off n on x v s).outer = s.outer := by
  unfold handOn
  rw [outer_of_still (ho _ _), outer_of_still (notice_still ..), takeInput_outer ho]

theorem readAnalog_outer (r : AiRole) (s : State) : (readAnalog off r s).outer = s.outer := by
  cases r <;> simp only [readAnalog] <;> (try split) <;> first
    | rfl
    | exact supplyTaken_outer _
    | exact outer_of_still (positionTaken_still ho ..)
    | exact outer_of_still (motorCurrentTaken_still ho ..)
end

end Sys2Proof.Machine
end

