-- ==== Sys2Proof/Tests/Slice0.lean ====
section
/-! SUPPORT. The model's own tests: an ill-formed command for each check of WellFormed, each command on a small
state, and for every statement the states that meet its hypotheses, clause by clause. -/

namespace Sys2Proof.Tests

set_option Elab.async false

open Sys2Proof.Machine

/-! ### Small states -/

/-- A configuration with each input role held, channel 23 the beacon, channels 10 and 11 a matched pair and the rest
DIMMED in class 2. -/
def wired : Cfg :=
  { general := {
      di := tab 16 fun n => { role := diRoles.getD n .unused }
      ai := tab 4 fun n => { role := aiRoles.getD n .unused, rawHi := 4000, eHi := if n.val < 2 then 1000 else 3200 } }
    channels := { ch := tab 24 fun i =>
      if i.val = 23 then { type := .beacon, cls := 3, rated := 15 }
      else if i.val = 10 then { type := .pairA, partner := 11, rated := 20, runTime := 2 }
      else if i.val = 11 then { type := .pairB, partner := 10, rated := 20, runTime := 2 }
      else { type := .dimmed, cls := 2, rated := 20, trip := 40, openThr := 5, partner := 1 - i.val } }
    supply := { battery := 4000, shore := 4000 } }

/-- A conversion's value. -/
def shows (v : Nat) : AiRt := { value := some v, converted := true, lastRaw := v }

/-- Started up and LINKED on `wired`: both axes HALTED at 500, the windlass IDLE, the bus at 24.5 V. -/
def base : State :=
  { cfg := wired
    inp := { di := tab 16 fun _ => { settled := true }
             ai := tab 4 fun n => shows (if n.val = 2 then 2450 else if n.val = 3 then 0 else 500)
             chain := { running := true, sensor := (false, false) } }
    vessel := { fresh := some 3000 }
    chan := tab 24 fun i => { owner := if i.val = 23 then .beacon else .none }
    link := { device := .linked, supervision := some 1000, wasLinked := true } }

/-- The input of a role, validated active. -/
def active (r : DiRole) (s : State) : State :=
  match s.roleInput r with
  | some n => s.setDi n { pin := true, run := 1000, filtered := true, settled := true, since := 1000 }
  | none => s

/-- A command answers a next state of which `p` holds. -/
def answers (i : Instr) (s : State) (p : State → Bool) : Bool :=
  match exec i s with
  | .next t => p t
  | .fault _ => false
  | .refused _ => false

/-- The last reply formed has a status. -/
def replied (c : Status) (t : State) : Bool := (t.link.replies.getLast?.map (·.status)) == some c

/-- The last notice queued. -/
def noted (n : Note) (t : State) : Bool := (t.link.queue.getLast?.map (·.note)) == some n

/-- A request with a LENGTH. -/
def req (len : Nat) : Req := ⟨7, len⟩

/-- A state with its configuration changed. -/
def cfgd (f : Cfg → Cfg) (s : State) : State := { s with cfg := f s.cfg }

/-- The windlass in a state. -/
def withWl (w : Windlass) : State := { base with wl := w }

/-- An axis in a state with the pack in a state. -/
def withAxis (a : AxisId) (x : Axis) (p : Pack := {}) : State := (base.setAxis a x).setPack p

theorem test_base_is_calm : base.Takes ∧ base.Calm ∧ base.Unwatched := by decide +kernel

/-! ### Ill-formed commands are refused -/

/-- Every command of a list is refused by the check. -/
def allIll (l : List Instr) : Bool := l.all fun i => !i.wf

/-- A first part and a binding record that are well-formed. -/
def part : ScenePart := ⟨0, 3, 1, 1, 2, 500, 1000, 0, 0, 1, [65], [4], [100]⟩
/-- See `part`. -/
def bindPart : BindingPart := ⟨0, 1, 0, 0, 511, 12, 0, 9, 0, 0, 0⟩

theorem test_wf_lengths : allIll ([Instr.getStatus, .reset, .budgetGet, .windlassClearFault, .windlassGet, .panelList,
    .commit, (.requestUnknownKind · 0x55), (.channelGet · 0), (.sceneDelete · 0), (.axisMove · 0 0),
    (.windlassSetCount · 0), (.bindingRead · 0), (.noticeEnable · 0)].map (· (req 241))) = true := by decide +kernel

theorem test_wf_link : allIll [.goodFrame [], .frameCheckFailed [], .setVesselData (req 3) 65536 0,
    .setVesselData (req 3) 0 256, .channelSet (req 5) 256 0 0, .channelSet (req 5) 0 65536 0,
    .channelSet (req 5) 0 0 65536, .channelGet (req 1) 256, .channelClearFault (req 1) 256,
    .noticeEnable (req 2) 65536, .reserve (req 3) 256 0, .reserve (req 3) 2 65536, .release (req 1) 256] = true := by
  decide +kernel

theorem test_wf_scenes : allIll ([{ part with part := 256 }, { part with slot := 256 }, { part with kind := 256 },
    { part with m := 256 }, { part with n := 256 }, { part with fade := 65536 }, { part with dwell := 4294967296 },
    { part with repeats := 256 }, { part with endCode := 256 }, { part with nameLen := 256 },
    { part with chans := [256] }, { part with levels := [65536] }].map (Instr.sceneWriteFirstPart (req 18) ·)) =
    true := by decide +kernel

theorem test_wf_players : allIll [.sceneWriteContinuation (req 5) 256 0 [0], .sceneWriteContinuation (req 5) 0 256 [0],
    .sceneWriteContinuation (req 5) 0 0 [65536], .sceneWriteContinuation (req 5) 0 0 [], .sceneRead (req 2) 256 0,
    .sceneRead (req 2) 0 256, .sceneDelete (req 1) 256, .playerStart (req 3) 256 0 0, .playerStart (req 3) 0 256 0,
    .playerStart (req 3) 0 0 256, .playerStopFinish (req 2) 256 0, .playerStopFinish (req 2) 0 256,
    .playerStopFinish (req 2) 0 1, .playerStopAbort (req 2) 256 1, .playerStopAbort (req 2) 0 0,
    .playerGet (req 1) 256] = true := by decide +kernel

theorem test_wf_motion : allIll [.axisMove (req 3) 256 0, .axisMove (req 3) 0 65536, .axisStop (req 1) 256,
    .axisGet (req 1) 256, .axisClearFault (req 1) 256, .sequenceStart (req 1) 256,
    .windlassCommandLower (req 3) 256 0, .windlassCommandLower (req 3) 0 65536, .windlassCommandLower (req 3) 1 0,
    .windlassCommandHoist (req 3) 0 0, .windlassCommandHoist (req 3) 1 65536, .windlassCommandLowerTo (req 3) 3 0,
    .windlassCommandLowerTo (req 3) 2 65536, .windlassCommandHoistHome (req 3) 4 0,
    .windlassCommandHoistHome (req 3) 3 65536, .windlassCommandStop (req 3) 0 0,
    .windlassCommandStop (req 3) 4 65536, .windlassSetCount (req 2) 65536] = true := by decide +kernel

theorem test_wf_tables : allIll ([.panelForget (req 1) 256, .indicatorSet (req 4) 256 0 0 0,
    .indicatorSet (req 4) 0 256 0 0, .indicatorSet (req 4) 0 0 256 0, .indicatorSet (req 4) 0 0 0 256,
    .bindingRead (req 1) 256, .configWrite (req 3) 256 0 [0], .configWrite (req 3) 0 256 [0],
    .configWrite (req 3) 0 0 [], .configRead (req 2) 256 0, .configRead (req 2) 0 256] ++
    [{ bindPart with index := 256 }, { bindPart with flags := 256 }, { bindPart with kind := 256 },
     { bindPart with match1 := 65536 }, { bindPart with match2 := 65536 }, { bindPart with action := 256 },
     { bindPart with busy := 256 }, { bindPart with p1 := 256 }, { bindPart with p2 := -32769 },
     { bindPart with p2 := 32768 }, { bindPart with p3 := 65536 }, { bindPart with zero := 256 }].map
      (Instr.bindingWrite (req 15) ·)) = true := by decide +kernel

theorem test_wf_events : allIll [.currentConversion 0 4096, .analogConversion 0 4096, .sensorOk 0 4096,
    .capability [], .short [], .ack [], .keys []] = true := by decide +kernel

theorem test_wf_holds : ([.sceneWriteFirstPart (req 18) part, .bindingWrite (req 15) bindPart,
    .windlassCommandLower (req 3) 9 0, .windlassCommandLowerTo (req 3) 2 65535, .currentConversion 23 4095,
    .sceneWriteContinuation (req 5) 0 0 [1000], .configWrite (req 4) 6 2 [1, 0]] : List Instr).all Instr.wf = true := by
  decide +kernel

/-! ### The queue, the invariants, resets and start-up -/

theorem test_step_runs_the_front :
    (match step { base with pending := [.stuck 0, .powerOn] } with
     | .next t => t.pending == [.powerOn]
     | .fault _ => false
     | .refused _ => false) = true := by decide +kernel

theorem test_an_empty_queue_ticks : base.pending = [] ∧
    (match step base with
     | .next t => t.dev.uptime == 1 && t.vessel.fresh == some 2999 && t.pending == [.slotStart]
     | .fault _ => false
     | .refused _ => false) = true := by decide +kernel

/-- One step from a state with an empty queue answers a state of which `p` holds. -/
def ticks (s : State) (p : State → Bool) : Bool :=
  match step s with
  | .next t => p t
  | .fault _ => false
  | .refused _ => false

/-- Timers of several blocks, each with `left` ms to go or `age` ms run; the bus in mid slot. -/
def ripe (left age : Nat) : State :=
  { base with
    chan := base.chan.set 4 { fade := some ⟨0, 1000, 20, 500, 19 + age⟩, fault := .tripped, retry := 1
                              tripAge := some (999 + age) }
    beacon := { blinking := true, halfMs := 499 + age }
    vessel := { fresh := some (1 + left) }
    stern := { platform := { state := .extending, runMs := 44999 + age, window := some (500, 1999 + age) }
               hatch := { cooldown := some (1 + left) }
               pack := { pump := .running, axis := some .platform, valve := some (.platform, .outward) } }
    wl := { state := .jogging, jogOn := true, phaseMs := 799 + age, up := true, heat := 119999 + age }
    panel := { panels := base.panel.panels.set 31 { holdings := [⟨15, .windlass, 1 + left⟩] }, slotMs := some 0 }
    bind := { flashes := [(511, 1 + left)] }
    link := { base.link with supervision := some (1 + left), requests := [⟨1, 7, []⟩] } }

theorem test_a_tick_posts_what_is_due :
    (ripe 0 0).pending = [] ∧
    ticks (ripe 0 0) (fun t => t.pending == [.fadeStep 4, .channelRetry 4, .beaconBlinkHalf, .stalenessTimerExpiry,
      .runTimeout .platform, .noProgress .platform, .cooldownEnd .hatch, .jogOnEnd, .thermalLockout, .deadman 31 15,
      .flashEnd 31 15, .supervisionExpiry, .getStatus ⟨7, 0⟩]) = true ∧
    ticks { ripe 1 0 with link := base.link, chan := base.chan, stern := {}, beacon := {}, wl := {} } (fun t =>
      t.pending == [] && t.vessel.fresh == some 1 && t.bind.flashes == [(511, 1)]) = true ∧
    ticks (withWl { heat := 7, coolMs := 3 }) (fun t => t.wl.heat == 6 && t.wl.coolMs == 0) = true ∧
    ticks (withWl { heat := 7, coolMs := 2 }) (fun t => t.wl.heat == 7 && t.wl.coolMs == 3) = true := by decide +kernel

theorem test_no_row_gives_bits : State.reset.withFetchWord 8 0 = State.reset := by decide +kernel

theorem test_reset_is_power_on_of_a_blank_part : answers .powerOn {} (· == State.reset) = true := by decide +kernel

theorem test_reset_keeps_its_ranges : State.reset.Bounded ∧ State.reset.OneMoves :=
  ⟨by constructor <;> decide, by unfold State.OneMoves; decide +kernel⟩

/-- A part whose stored copy is `wired`, but for a CHANNELS section with a second beacon and a broken LIMITS. -/
def storedNv : Nv :=
  { general := some wired.general, channels := some { ch := tab 24 fun _ => { type := .beacon } }
    supply := some wired.supply, mark := true, cellA := some ⟨37, 4⟩, cellB := some ⟨38, 5⟩ }

theorem test_sections_load_apart :
    answers .powerOn { base with nv := storedNv } (fun t => t.cfg.general == wired.general &&
      t.cfg.channels == {} && t.cfg.supply == wired.supply && t.link.device == .starting &&
      t.dev.defaulted == 382 && t.dev.cause == .powerOn && t.inp.di[0].pin == false) = true ∧
    answers .supplyDip { base with nv := storedNv } (fun t => t.dev.cause == .supplyDip && noted .started t) =
      true := by decide +kernel

/-- STARTING, with every input settled. -/
def starting : State := { base with link := { device := .starting }, nv := storedNv }

theorem test_start_up_ends :
    let s := active .platStowEnd starting
    (s.startUpOver = true ∧ s.Unbound ∧ s.bind.acting = none ∧ s.bind.events = []) ∧
    (∃ v, s.analogValue .busVoltage = some v) ∧
    answers .startUpInputsSettled s (fun t => t.link.device == .standalone && (t.axis .platform).state == .stowed &&
      (t.axis .hatch).state == .halted && t.wl.count == 38 && t.wl.status == .restored) = true :=
  ⟨by decide +kernel, ⟨2450, by decide +kernel⟩, by decide +kernel⟩

theorem test_start_up_ends_blank :
    let s := { starting with inp := { di := starting.inp.di, ai := tab 4 fun _ => {} }, dev := { uptime := 550 } }
    (s.startUpOver = true ∧ s.analogValue .busVoltage = none ∧ s.budget.held = false ∧
      s.position .hatch = none) ∧
    answers .startUpInputsSettled s (fun t => t.budget.supply == .brownout && t.budget.held &&
      (t.axis .hatch).state == .fault) = true ∧
    answers .startUpInputsSettled (active .anchorHome starting) (fun t => t.wl.count == 0 &&
      t.wl.status == .verified) = true := by decide +kernel

/-! ### The command link -/

/-- The device in a state. -/
def inState (d : DevState) : State := { base with link := { base.link with device := d } }

theorem test_good_frames :
    (base.link.rx.state = .hunt ∧ base.Unwatched ∧ base.link.resetReply = false ∧ base.link.requests.length < 3) ∧
    answers (.goodFrame (linkFrame 1 7 [])) (inState .standalone) (fun t => t.link.device == .linked &&
      noted .hostBack t && t.link.requests == [⟨1, 7, []⟩] && t.link.supervision == some 1000) = true ∧
    answers (.goodFrame (linkFrame 1 7 [0, 0])) (inState .starting) (fun t =>
      t.link.device == .starting && t.link.requests.length == 1) = true ∧
    answers (.goodFrame (linkFrame 1 7 [])) { base with link := { base.link with
      requests := List.replicate 3 ⟨1, 0, []⟩ } } (fun t => t.link.rx.dropped == 1) = true := by decide +kernel

theorem test_bad_frames :
    (base.link.rx.state = .hunt ∧ crc8 [byteOf 0, 1, 8] ≠ 0) ∧
    answers (.frameCheckFailed [0xC3, 0, 1, 8, 0]) base (fun t => t.link.rx.checkFailures == 1 &&
      t.link.rx.state == .hunt) = true ∧
    answers (.frameCut [0xC3, 241] .oversize) base (fun t => t.link.rx.cutFrames == 1) = true ∧
    answers (.frameCut [0xC3, 240, 1] .framingError) base (fun t => t.link.rx.cutFrames == 1) = true ∧
    answers (.frameCut [0xC3, 0] (.gap 0xC3)) base (fun t => t.link.rx.cutFrames == 1 &&
      t.link.rx.state == .header) = true := by decide +kernel

/-- A framing error and a gap right after SYNC, and with all but the check arrived. -/
theorem test_frames_are_cut_anywhere :
    ([[0xC3], [0xC3, 0, 1, 8], [0xC3, 2, 1, 8, 0xC3, 9]] : List (List Byte)).all (fun f =>
      answers (.frameCut f .framingError) base (· == { base with link := { base.link with
        rx := { base.link.rx with cutFrames := 1 } } }) &&
      answers (.frameCut f (.gap 0xC3)) base (· == { base with link := { base.link with
        rx := { base.link.rx with cutFrames := 1, state := .header } } }) &&
      answers (.frameCut f (.gap 0)) base (fun t => t.link.rx.cutFrames == 1 && t.link.rx.state == .hunt)) = true := by
  decide +kernel

theorem test_a_gap_is_counted_before_a_good_frame :
    (let s := { base with dev := { uptime := 21 }, link := { base.link with rx := { base.link.rx with
       state := .header, held := [0xC3], lastAt := 0 } } }
     answers (.goodFrame (linkFrame 1 7 [])) s (fun t => t.link.rx.cutFrames == 1 &&
       t.link.requests == [⟨1, 7, []⟩])) = true := by decide +kernel

/-- Supervision has run out while the host drives the platform and runs the windlass. -/
def deserted : State :=
  { base with link := { base.link with supervision := some 0 }, wl := { state := .lowering, holder := .host, down := true }
              stern := { platform := { state := .extending, holder := .host }
                         hatch := { holder := .panel 1 2 } } }

theorem test_supervision_expires :
    (deserted.link.device = .linked ∧ deserted.link.supervision = some 0 ∧ deserted.Unwatched ∧ deserted.Unbound ∧
      deserted.Between ∧ deserted.stern.seq.running = false ∧ deserted.vessel.fresh.isSome = true ∧
      (deserted.axis .platform).state.driving = true ∧ deserted.wl.state.running = true ∧
      (deserted.axis .hatch).holder ≠ .host) ∧
    answers .supervisionExpiry deserted (fun t => t.link.device == .standalone && t.vessel.fresh == none &&
      (t.axis .platform).state == .halted && t.axis .hatch == deserted.axis .hatch && t.wl.state == .braking) = true ∧
    answers .supervisionExpiry { deserted with wl := { state := .lowering, holder := .foot } } (fun t =>
      t.wl.state == .lowering) = true := by decide +kernel

/-- Supervision has run out while the host's sequence drives the hatch in STEP2. -/
def orphaned : State :=
  { deserted with stern := { hatch := { state := .extending, holder := .sequence }
                             seq := { state := .step2, kind := some .garageOpen, axis := some .hatch, holder := .host } } }

theorem test_supervision_stops_what_the_host_holds :
    (orphaned.Unwatched ∧ orphaned.Unbound ∧ orphaned.Between ∧ orphaned.stern.seq.running = true ∧
      (orphaned.axis .hatch).state.moving = true ∧ (orphaned.axis .platform).holder = .none) ∧
    answers .supervisionExpiry orphaned (fun t => (t.axis .hatch).state == .halted && t.stern.seq.state == .aborted &&
      t.stern.seq.ended == some (2, .stopped) && t.link.queue.any (·.note == .hostLost)) = true ∧
    answers .supervisionExpiry (orphaned.setSeq { orphaned.stern.seq with holder := .panel 1 2 }) (fun t =>
      t.stern.seq.state == .step2 && (t.axis .hatch).state == .extending) = true ∧
    answers .supervisionExpiry (active .hatchLatchFree
      { deserted with stern := { hatch := { state := .unlatching, holder := .host } } }) (fun t =>
      (t.axis .hatch).state == .latching) = true ∧
    answers .supervisionExpiry { deserted with stern := { hatch := { state := .unlatching, holder := .host } } } (fun t =>
      (t.axis .hatch).state == .stowed && t.budget.res.stern == none) = true ∧
    answers .supervisionExpiry { deserted with stern := { hatch := { state := .latching, holder := .host } } } (fun t =>
      t.axis .hatch == { state := .latching }) = true := by decide +kernel

/-- A reply, and a notice, that wait; the transmitter in a state. -/
def waiting (r : List Reply) (n : List Notice) (f : Option Sending) : State :=
  { base with link := { base.link with replies := r, queue := n, sending := f } }

/-- A reply, that of a RESET, and a notice. -/
def aReply (kind : Byte) : Reply := ⟨kind, 7, .ok, 0, []⟩
/-- See `aReply`. -/
def aNotice : Notice := ⟨0, .cleared, 4, []⟩

theorem test_transmitter :
    answers .replyOrNoticeSent (waiting [aReply 5] [aNotice] none) (fun t =>
      t.link.sending == some ⟨false, (aReply 5).bytes, 0⟩) = true ∧
    answers .replyOrNoticeSent (waiting [] [aNotice] none) (fun t =>
      t.link.sending == some ⟨true, aNotice.bytes, 0⟩) = true ∧
    answers .replyOrNoticeSent (waiting [] [] none) (· == waiting [] [] none) = true ∧
    answers .replyOrNoticeSent (waiting [] [aNotice] (some ⟨true, aNotice.bytes, 2⟩)) (fun t =>
      t.link.sending == none && t.link.queue.isEmpty) = true ∧
    answers .replyOrNoticeSent (waiting [aReply 5] [] (some ⟨false, (aReply 5).bytes, 1⟩)) (fun t =>
      t.link.sending == none && t.link.replies.isEmpty) = true ∧
    answers .replyOrNoticeSent (waiting [aReply 3] [] (some ⟨false, (aReply 3).bytes, 1⟩)) (fun t =>
      t.dev.cause == .resetRequest && t.link.device == .starting) = true ∧
    lineTime aNotice.bytes.length = 2 ∧ lineTime (aReply 5).bytes.length = 1 := by decide +kernel

theorem test_transmitter_goes_on :
    answers .replyOrNoticeSent (waiting [aReply 5] [aNotice] (some ⟨true, aNotice.bytes, 1⟩)) (· ==
      waiting [aReply 5] [aNotice] (some ⟨true, aNotice.bytes, 1⟩)) = true ∧
    answers .replyOrNoticeSent (waiting [aReply 5] [aNotice] (some ⟨true, aNotice.bytes, 2⟩)) (· ==
      waiting [aReply 5] [] (some ⟨false, (aReply 5).bytes, 0⟩)) = true ∧
    answers .replyOrNoticeSent (waiting [] [aNotice, aNotice] (some ⟨true, aNotice.bytes, 2⟩)) (· ==
      waiting [] [aNotice] (some ⟨true, aNotice.bytes, 0⟩)) = true ∧
    answers .replyOrNoticeSent (waiting [aReply 5, aReply 6] [] (some ⟨false, (aReply 5).bytes, 1⟩)) (· ==
      waiting [aReply 6] [] (some ⟨false, (aReply 6).bytes, 0⟩)) = true ∧
    answers .replyOrNoticeSent (waiting [aReply 5] [aNotice] (some ⟨false, (aReply 5).bytes, 1⟩)) (· ==
      waiting [] [aNotice] (some ⟨true, aNotice.bytes, 0⟩)) = true := by decide +kernel

theorem test_notices_queue :
    (base.link.enabled.getLsbD (codeIn nClasses Note.cleared.cls) = true ∧ base.link.queue.length < 32) ∧
    (base.link.enabled.getLsbD (codeIn nClasses Note.keyPress.cls) = false) ∧
    (notice .cleared 0 [] { base with link := { base.link with queue := List.replicate 32 aNotice } }).link.overflow =
      true ∧ Note.cls .hostBack = .device ∧ Note.code .hostBack = 5 := by decide +kernel

/-! ### Requests -/

theorem test_requests_in_order :
    (fixedForm (.playerGet (req 0) 0) = some (0x0C, req 0, 1) ∧ (inState .starting).starting = true) ∧
    answers (.requestUnknownKind (req 0) 0) base (replied .unknownKind) = true ∧
    answers (.requestUnknownKind (req 0) 0x22) base (replied .unknownKind) = true ∧
    answers (.playerGet (req 0) 0) base (replied .badLength) = true ∧
    answers (.commit (req 1)) base (replied .badLength) = true ∧
    answers (.playerGet (req 1) 0) (inState .starting) (replied .notReady) = true ∧
    answers (.reset (req 0)) base (fun t => t.link.resetReply && replied .ok t) = true ∧
    answers (.playerGet (req 1) 0) { base with link := { base.link with resetReply := true } }
      (·.link.replies.isEmpty) = true := by decide +kernel

/-- The requests of more than one LENGTH, each with one it allows or not. -/
def longer (ok : Bool) : List Instr :=
  let q (n : Nat) : Req := req (if ok then n else n + 1)
  [.sceneWriteFirstPart (q 18) part, .sceneWriteContinuation (req (if ok then 5 else 2)) 0 0 [0], .configWrite (q 4) 6 2 [1, 0], .commit (q 0)]

theorem test_every_request_is_turned_away :
    ((longer true).map fun i => (requestForm i).map (·.2.2)) = List.replicate 4 (some true) ∧
    ((longer false).map fun i => (requestForm i).map (·.2.2)) = List.replicate 4 (some false) ∧
    (longer true).all (fun i => answers i (inState .starting) (replied .notReady)) = true ∧
    (longer false).all (fun i => answers i (inState .starting) (replied .badLength)) = true ∧
    (let s := { base with link := { base.link with resetReply := true } }
     ((longer true) ++ longer false).all (fun i => answers i s (· == s))) = true := by decide +kernel

/-- A scene of two rows on channels 4 and 5, in slot 3. -/
def aScene : SceneRec := ⟨.sequence, [4, 5], 2, [[100, 200], [1000, 0]], 500, 1000, 2, .holdLast, [65]⟩
/-- `base` with that scene. -/
def lit : State := { base with cfg := { wired with scenes := (Vector.replicate 64 none).set 3 (some aScene) } }

theorem test_reads :
    (lit.Takes ∧ lit.cfg.scenes[3] = some aScene ∧ (itemAt 0 0).isSome = true ∧ (itemAt 8 31).isSome = true ∧
      itemAt 8 32 = none ∧ itemAt 2 0 = none ∧ lit.cfg.scenes[63] = none) ∧
    ([.channelGet (req 1) 23, .playerGet (req 1) 3, .budgetGet (req 0), .axisGet (req 1) 1, .windlassGet (req 0),
      .panelList (req 0), .bindingRead (req 1) 63, .configRead (req 2) 8 31, .sceneRead (req 2) 3 1,
      .getStatus (req 0)] : List Instr).all (fun i => answers i lit (replied .ok)) = true ∧
    ([.channelGet (req 1) 24, .playerGet (req 1) 4, .axisGet (req 1) 2, .bindingRead (req 1) 64,
      .configRead (req 2) 8 32, .sceneRead (req 2) 64 0, .sceneRead (req 2) 3 2] : List Instr).all
      (fun i => answers i lit (replied .outOfRange)) = true ∧
    answers (.sceneRead (req 2) 63 0) lit (replied .notFound) = true := by decide +kernel

theorem test_marks_share_a_byte :
    (channelBytes 4 (base.setChan 4 { openFlag := true, retry := 2 })).drop 12 = [1, 0, 0] ++ List.replicate 8 255 ∧
    (channelBytes 10 (base.setChan 10 { level := 1000, deadMs := some 0 })).getD 12 0 = 2 ∧
    (let s := { withWl { creep := some (-1, 0), conflict := true } with vessel := { anchored := true } }
     (windlassBytes s).getD 15 0 = 7) ∧
    (budgetBytes { base with budget := { shedding := true, held := true } }).getD 26 0 = 6 ∧
    ((statusBytes { base with dev := { commit := some ⟨0, true, [], 0⟩ } }).reverse.take 2) = [0, 2] := by decide +kernel

theorem test_vessel_data :
    answers (.setVesselData (req 3) 1000 3) (active .shorePresent base) (fun t => t.vessel.speed == 999 &&
      t.vessel.active == .battery && t.vessel.fresh == some 3000) = true ∧
    answers (.setVesselData (req 3) 0 0) base (fun t => t.vessel.active == .shore && noted .sourceChanged t) = true ∧
    answers (.setVesselData (req 3) 0 4) base (replied .outOfRange) = true := by decide +kernel

theorem test_notice_enable :
    answers (.noticeEnable (req 2) 1023) base (fun t => t.link.enabled == 0x3FF && replied .ok t) = true ∧
    answers (.noticeEnable (req 2) 1024) base (replied .outOfRange) = true := by decide +kernel

/-! ### Load channels -/

/-- Channel 4 in a state. -/
def withCh (c : Channel) : State := base.setChan 4 c
/-- Player 1 in a state, running `aScene` on channels 4 and 5. -/
def playing (x : Player) : State := ((lit.setPlayer 1 x).setChan 4
  { owner := .player 1, fade := some ⟨0, 100, 480, 500, 20⟩ }).setChan 5 { owner := .player 1 }
/-- A run of `aScene` in its first row. -/
def aRun (st : PlayerState) (act wait : List Nat) : Player :=
  { state := st, scene := some 3, active := act, waiting := wait }

theorem test_channel_set :
    (base.scene.idleWork = [] ∧ base.chan[4].owner = .none ∧ base.chan[23].owner = .beacon) ∧
    answers (.channelSet (req 5) 4 1001 60001) base (fun t => t.chan[4].owner == .hostDirect &&
      t.chan[4].fade == some ⟨0, 1000, 0, 60000, 0⟩) = true ∧
    answers (.channelSet (req 5) 4 1001 0) base (fun t => t.chan[4].level == 1000 && t.chan[4].fade == none) = true ∧
    answers (.channelSet (req 5) 23 0 0) base (replied .inUse) = true ∧
    answers (.channelSet (req 5) 24 0 0) base (replied .outOfRange) = true := by decide +kernel

theorem test_channel_set_tells_the_player :
    let s := playing (aRun .dwell [4, 5] [])
    let u := playing (aRun .dwell [4] [])
    (s.Takes ∧ s.Calm ∧ s.chan[4].owner = .player 1 ∧ (s.chCfg 4).type = .dimmed ∧
      (s.player 1).active.erase 4 ≠ [] ∧ 4 ∉ (s.player 1).waiting ∧ u.Calm ∧ (u.player 1).active = [4] ∧
      (u.player 1).state ≠ .idle ∧ (u.player 1).pendingTrig = none) ∧
    answers (.channelSet (req 5) 4 10 10) s (fun t => (t.player 1).active == [5] && t.chan[4].owner == .hostDirect) =
      true ∧
    answers (.channelSet (req 5) 4 10 10) u (fun t => (t.player 1).state == .idle && (t.player 1).active == [] &&
      (t.player 1).outcome == .superseded && noted .playerDone t) = true := by decide +kernel

theorem test_channel_set_ends_the_last_wait :
    (let s := playing (aRun .fading [4, 5] [4])
     s.Calm ∧ s.sceneAt 3 = some aScene ∧ (s.player 1).waiting.erase 4 = [] ∧ (s.player 1).active.erase 4 ≠ [] ∧
       (s.player 1).active.Nodup) ∧
    answers (.channelSet (req 5) 4 10 10) (playing (aRun .fading [4, 5] [4, 5])) (fun t =>
      t.player 1 == aRun .fading [5] [5]) = true ∧
    answers (.channelSet (req 5) 4 10 10) (playing (aRun .stopping [4, 5] [4])) (fun t =>
      (t.player 1).state == .idle && (t.player 1).outcome == .stopped && t.chan[5].owner == .none) = true ∧
    answers (.channelSet (req 5) 4 10 10) (playing { aRun .fading [4, 5] [4] with endFade := true }) (fun t =>
      (t.player 1).state == .idle && (t.player 1).outcome == .completed) = true ∧
    answers (.channelSet (req 5) 4 10 10) (playing (aRun .fading [4, 5] [4])) (fun t =>
      t.player 1 == { aRun .dwell [5] [] with dwell := some 1000 }) = true ∧
    answers (.channelSet (req 5) 4 10 10) { playing { aRun .fading [4, 5] [4] with scene := some 63 } with
        cfg := { lit.cfg with scenes := lit.cfg.scenes.set 63 (some { aScene with kind := .static }) } } (fun t =>
      (t.player 1).state == .idle && (t.player 1).outcome == .completed) = true := by decide +kernel

/-- The pair channels 10 and 11, the second at 1000 under the host. -/
def paired : State := base.setChan 11 { level := 1000, owner := .hostDirect, runMs := some 2000 }

theorem test_pairs :
    (paired.matched 10 11 = true ∧ paired.chan[11].level = 1000 ∧ (paired.chCfg 10).type.isPair = true ∧
      paired.matched 10 4 = false ∧ paired.pairHome 11 = some 10) ∧
    answers (.channelSet (req 5) 10 1 0) paired (fun t => t.chan[10].level == 1000 && t.chan[11].level == 0 &&
      t.heldOff 10 && t.heldOff 11 && t.chan[11].owner == .hostDirect) = true ∧
    answers (.pairTimeout 11) paired (fun t => t.chan[11].level == 0 && t.chan[10].deadMs == some 0 &&
      noted .pairTimeout t) = true ∧
    answers (.pairDeadTimeEnd 11) (paired.setChan 10 { deadMs := some 500 }) (fun t => t.chan[10].deadMs == none) =
      true := by decide +kernel

/-- A pair channel whose partner no longer names it reaches its run time: no dead time, and its drive ends with the
period. -/
theorem test_an_unmatched_pair_channel_times_out :
    (let s := cfgd (fun c => { c with channels := { c.channels with ch := c.channels.ch.set 10 {} } })
       (base.setChan 11 { level := 1000, granted := 1000, pwm := 1000, owner := .hostDirect, runMs := some 2000 })
     s.pairHome 11 = none ∧ (s.chCfg 11).type.isPair = true ∧ (s.chCfg 11).runTime = 2 ∧
       answers (.pairTimeout 11) s (fun t => t.chan[11].level == 0 && t.chan[11].runMs == none &&
         t.chan[11].owner == .hostDirect && t.chan[11].granted == 0 && t.chan[11].pwm == 1000 &&
         (List.finRange 24).all (fun j => t.chan[j].deadMs == none) && t.gateOn 11 && noted .pairTimeout t) = true) := by
  decide +kernel

theorem test_pair_outputs_are_never_on_together :
    paired.PairsApart ∧ (paired.setChan 11 { level := 1000, granted := 1000, pwm := 1000 }).gateOn 11 = true ∧
    answers (.channelSet (req 5) 11 0 0) (paired.setChan 11 { level := 1000, granted := 1000, pwm := 1000 }) (fun t =>
      !t.gateOn 11 && t.chan[10].deadMs == some 0 && !t.heldAtFull 11) = true :=
  ⟨⟨by decide +kernel, by decide +kernel⟩, by decide +kernel, by decide +kernel⟩

theorem test_channel_clear_fault :
    answers (.channelClearFault (req 1) 4) (withCh { fault := .latched, retry := 3 }) (fun t => t.chan[4].fault == .ok &&
      t.chan[4].retry == 0 && noted .cleared t) = true ∧
    answers (.channelClearFault (req 1) 4) (withCh { fault := .tripped }) (replied .notFaulted) = true ∧
    answers (.channelClearFault (req 1) 24) base (replied .outOfRange) = true := by decide +kernel

theorem test_fade_steps :
    (base.Between ∧ base.chan[4].owner ≠ .player 0) ∧
    answers (.fadeStep 4) (withCh { level := 10, fade := some ⟨0, 1000, 20, 500, 20⟩ }) (fun t =>
      t.chan[4].level == 80 && t.chan[4].fade == some ⟨0, 1000, 40, 500, 0⟩) = true ∧
    answers (.fadeStep 4) (withCh { level := 10, fade := some ⟨1000, 0, 480, 500, 20⟩ }) (fun t =>
      t.chan[4].level == 0 && t.chan[4].fade == none) = true := by decide +kernel

/-- Fade steps of a channel that a player owns: before the end, at the end with another channel still waited for, of a
player in DWELL, and of one that does not wait for it. -/
theorem test_fade_steps_of_a_player :
    (let s (st : PlayerState) (wait : List Nat) (left : Nat) := (playing (aRun st [4, 5] wait)).setChan 4
       { owner := .player 1, level := 90, fade := some ⟨0, 100, 500 - left, 500, 20⟩ }
     (s .fading [4, 5] 40).Between ∧ (s .fading [4, 5] 20).chan[4].owner = .player 1 ∧
       answers (.fadeStep 4) (s .fading [4, 5] 40) (fun t => t.chan[4].level == 96 &&
         t.chan[4].fade == some ⟨0, 100, 480, 500, 0⟩ && t.scene == (s .fading [4, 5] 40).scene) = true ∧
       answers (.fadeStep 4) (s .fading [4, 5] 20) (fun t => t.chan[4].level == 100 && t.chan[4].fade == none &&
         t.player 1 == aRun .fading [4, 5] [5] && t.chan[4].owner == .player 1) = true ∧
       answers (.fadeStep 4) (s .dwell [4] 20) (fun t => t.player 1 == aRun .dwell [4, 5] []) = true ∧
       answers (.fadeStep 4) (s .fading [5] 20) (fun t => t.scene == (s .fading [5] 20).scene &&
         t.chan[4].level == 100) = true) := by decide +kernel

/-- Channel 4 driven at 1000, with a trip series. -/
def driven (retry : Nat) (start : Option Uptime) : State :=
  { withCh { level := 1000, granted := 1000, pwm := 1000, retry := retry, seriesStart := start, offMs := 0 } with
    dev := { uptime := 60000 } }

theorem test_trips :
    ((driven 0 none).gateOn 4 = true ∧ base.gateOn 4 = false) ∧
    answers (.shortCircuitReport 4) base (· == base) = true ∧
    answers (.shortCircuitReport 4) (driven 0 none) (fun t => t.chan[4].fault == .tripped && t.chan[4].retry == 1 &&
      t.chan[4].seriesStart == some 60000) = true ∧
    answers (.shortCircuitReport 4) (driven 2 (some 0)) (fun t => t.chan[4].retry == 1) = true ∧
    answers (.shortCircuitReport 4) (driven 2 (some 1)) (fun t => t.chan[4].retry == 3 &&
      t.chan[4].fault == .tripped) = true ∧
    answers (.shortCircuitReport 4) (driven 3 (some 1)) (fun t => t.chan[4].fault == .latched && noted .latched t) =
      true := by decide +kernel

theorem test_retries_and_open_loads :
    answers (.channelRetry 4) (withCh { fault := .tripped, retry := 1, tripAge := some 1000 }) (fun t =>
      t.chan[4].fault == .ok && noted .retried t) = true ∧
    answers (.tripSeriesQuiet 4) (withCh { retry := 1, tripAge := some 60000 }) (fun t => t.chan[4].retry == 0) = true ∧
    (base.chCfg 4).openThr = 5 ∧
    answers (.openLoad 4) (withCh { level := 1000, openMs := 500, current := 4 }) (fun t => t.chan[4].openFlag &&
      noted .openLoad t) = true ∧
    answers (.loadRestored 4) (withCh { level := 1000, openMs := 500, current := 5, openFlag := true }) (fun t =>
      !t.chan[4].openFlag && noted .loadRestored t) = true := by decide +kernel

theorem test_beacon :
    base.beaconChannel = some 23 ∧ base.beaconActive = false ∧
    (let s := withWl { state := .lowering }
     s.beaconActive = true ∧ (beaconUpdate s).chan[23].level = 1000 ∧
       (beaconUpdate { s with beacon := { blinking := true, stretch := some 9 } }).beacon.active = true ∧
       beaconUpdate { s with beacon := { active := true } } = { s with beacon := { active := true } }) ∧
    (beaconUpdate { base with beacon := { active := true, blinking := true } }).beacon.stretch = some 3000 ∧
    (let s := { base with cfg := { wired with channels := { wired.channels with beaconStretch := 0 } }
                          beacon := { active := true, blinking := true } }
     (beaconUpdate s).beacon = {}) ∧
    answers .beaconBlinkHalf { base with beacon := { blinking := true, halfMs := 500 } } (·.beacon.halfOn) = true ∧
    answers .beaconStretchEnd { base with beacon := { blinking := true, stretch := some 0 } } (fun t =>
      t.beacon == {} && t.chan[23].level == 0) = true := by decide +kernel

/-- The beacon agrees with the machinery at rest, while the windlass runs, and in the stretch after it. -/
theorem test_beacon_agrees :
    base.BeaconAgrees ∧
    (let s := { withWl { state := .lowering, holder := .host, down := true } with
       beacon := { active := true, blinking := true, halfOn := true } }
     s.BeaconAgrees ∧ answers (.windlassCommandStop (req 3) 4 0) s (fun t => !t.beaconActive && !t.beacon.active &&
       t.beacon.blinking && t.beacon.stretch == some 3000) = true) :=
  ⟨⟨by decide +kernel, by decide +kernel, by decide +kernel⟩,
    ⟨by decide +kernel, by decide +kernel, by decide +kernel⟩, by decide +kernel⟩

theorem test_currents :
    (let s := driven 0 none
     s.chan[4].fault = .ok ∧ s.gateOn 4 = true ∧ (s.chCfg 4).trip < 4095 * (s.chCfg 4).senseFull / 4095) ∧
    answers (.currentConversion 4 4095) base (fun t => t.chan[4].current == 0) = true ∧
    answers (.currentConversion 4 655) (driven 0 none) (fun t => t.chan[4].current == 39 && t.chan[4].overMs == none) =
      true ∧
    answers (.currentConversion 4 672) (driven 0 none) (fun t => t.chan[4].current == 41 &&
      t.chan[4].overMs == some 0) = true ∧
    answers (.currentConversion 4 4095) (withCh { (driven 0 none).chan[4] with overMs := some 20 }) (fun t =>
      t.chan[4].fault == .tripped && !t.gateOn 4) = true := by decide +kernel

/-! ### The supply budget -/

/-- Channels 0 to 9 and 12 to 22 at 1000, each demanding 2 A, the beacon blinking, and `amount` reserved for EXT1. -/
def loaded (amount : Option Nat) : State :=
  { base with
    chan := tab 24 fun i => { level := 1000, owner := if i.val = 23 then .beacon else .none }
    beacon := { active := true, blinking := true, halfOn := true }
    budget := { res := { ext1 := amount } } }

theorem test_evaluation :
    (loaded none).starting = false ∧
    (let e := (evaluate (loaded none)).budget.last
     e.limit = 4000 ∧ e.c2 = 420 ∧ e.c1 = 0 ∧ e.f2 = 1000 ∧ 0 < e.rest) ∧
    (let e := (evaluate (loaded (some 3690))).budget.last
     e.avail = 210 ∧ e.c0 = 15 ∧ e.c2 = 420 ∧ e.f2 = 464 ∧ e.c3 = 40 ∧ e.f3 = 0) ∧
    (let e := (evaluate (loaded (some 4000))).budget.last
     e.avail = 0 ∧ e.f2 = 0) ∧
    (let s := { loaded none with budget := { supply := .brownout } }
     (evaluate s).budget.last.f2 = 0 ∧ (evaluate s).budget.shedding = true) ∧
    ∀ i : Fin 24, ((loaded none).chCfg i).cls ≤ 3 := by decide +kernel

theorem test_reservations :
    (let s := loaded (some 100)
     s.Takes ∧ s.budget.res.get .ext1 = some 100 ∧ s.budget.res.get .ext4 = none ∧
       codeIn resHolders .ext1 = 2 ∧ codeIn resHolders .ext4 = 5) ∧
    answers (.reserve (req 3) 2 4000) (loaded (some 100)) (replied .noBudget) = true ∧
    answers (.reserve (req 3) 2 3900) (loaded (some 100)) (fun t => t.budget.res.ext1 == some 3900) = true ∧
    answers (.reserve (req 3) 5 3800) (loaded (some 100)) (fun t => t.budget.res.ext4 == some 3800 && replied .ok t) =
      true ∧
    answers (.reserve (req 3) 5 3801) (loaded (some 100)) (replied .noBudget) = true ∧
    answers (.reserve (req 3) 2 99) { base with budget := { supply := .critical, res := { ext1 := some 100 } } }
      (fun t => t.budget.res.ext1 == some 99) = true ∧
    answers (.reserve (req 3) 5 0) { loaded none with budget := { supply := .brownout } } (replied .supplyLow) = true ∧
    answers (.reserve (req 3) 2 100) (loaded (some 100)) (replied .ok) = true ∧
    answers (.release (req 1) 2) (loaded (some 100)) (fun t => t.budget.res.ext1 == none) = true ∧
    answers (.release (req 1) 5) (loaded none) (replied .ok) = true ∧
    answers (.reserve (req 3) 1 0) base (replied .outOfRange) = true ∧
    answers (.reserve (req 3) 6 0) base (replied .outOfRange) = true ∧
    answers (.reserve (req 3) 2 4001) base (replied .outOfRange) = true ∧
    answers (.release (req 1) 6) base (replied .outOfRange) = true := by decide +kernel

/-- The supply state with a dwell. -/
def dwelling (st new : SupplyState) (ms : Nat) : State :=
  let held : Reservations := { stern := some 400, windlass := some 900, ext2 := some 5 }
  { deserted with budget := { supply := st, dwell := some (new, ms), res := held } }

theorem test_supply_moves :
    (let s := dwelling .brownout .critical 200
     s.Unbound ∧ s.Between ∧ s.starting = false ∧ (s.axis .platform).state.watched = true ∧
       s.wl.state.running = true) ∧
    answers .supplyToBrownout (dwelling .normal .brownout 200) (fun t => t.budget.supply == .brownout &&
      t.budget.res.stern == some 400 && noted .stateBrownout t) = true ∧
    answers .supplyToBrownout (dwelling .critical .brownout 2000) (fun t => t.budget.supply == .brownout) = true ∧
    answers .stateNormal (dwelling .brownout .normal 2000) (fun t => t.budget.supply == .normal) = true ∧
    answers .stateCritical (dwelling .brownout .critical 200) (fun t => t.budget.supply == .critical &&
      t.budget.res.stern == none && t.budget.res.windlass == none && t.budget.res.ext2 == some 5 &&
      (t.axis .platform).state == .fault && (t.axis .platform).fault.map (·.cause) == some .supply &&
      t.wl.state == .braking && t.wl.brakingEnd == some .fault && t.wl.faultRec.map (·.cause) == some .supply) = true := by
  decide +kernel

theorem test_critical_cuts_a_run_on :
    (let p : Pack := { pump := .runOn, axis := some .platform, runOn := 150 }
     let s := { withAxis .platform {} p with budget := (dwelling .brownout .critical 200).budget }
     s.Unbound ∧ s.Between ∧ answers .stateCritical s (fun t => t.stern.pack == {} && t.budget.res.stern == none &&
       t.link.queue.any (·.note == .stateCritical)) = true) ∧
    answers .stateNormal (dwelling .brownout .normal 2000) (fun t => t.link.queue.any (·.note == .stateNormal)) = true := by
  decide +kernel

/-! ### Scenes and players -/

/-- A commit is in flight. -/
def committing (s : State) : State := { s with dev := { s.dev with commit := some ⟨0, true, [], 0⟩ } }
/-- A first part that carries both its rows. -/
def whole : ScenePart := { part with levels := [100, 200] }
/-- `lit` with the pool filled but for one cell. -/
def full : State :=
  let r (n : Nat) : SceneRec := { aScene with chans := [4], steps := n, rows := List.replicate n [0] }
  { lit with cfg := { lit.cfg with scenes := (Vector.replicate 64 (some (r 12))).set 63 (some (r 11)) } }

theorem test_scene_first_part :
    (lit.Takes ∧ firstPartLengthOk 18 part = true ∧ firstPartLengthOk 20 whole = true ∧ partInRange part = true ∧
      partInRange { part with slot := 64 } = false ∧ full.usedCells = 767) ∧
    answers (.sceneWriteFirstPart (req 18) part) lit (fun t => t.scene.assembly == some ⟨3, partRec part, 5000⟩ &&
      replied .ok t) = true ∧
    answers (.sceneWriteFirstPart (req 20) whole) lit (fun t => t.sceneAt 3 == some (partRec whole) &&
      t.scene.assembly == none && t.dev.changed == 4) = true ∧
    answers (.sceneWriteFirstPart (req 18) { part with slot := 64 }) lit (replied .outOfRange) = true ∧
    answers (.sceneWriteFirstPart (req 18) { part with chans := [23] }) lit (replied .conflict) = true ∧
    answers (.sceneWriteFirstPart (req 18) part) (playing (aRun .dwell [4] [])) (replied .inUse) = true ∧
    answers (.sceneWriteFirstPart (req 18) { part with n := 14 }) full (replied .noSpace) = true ∧
    answers (.sceneWriteFirstPart (req 18) { part with n := 13 }) full (replied .ok) = true ∧
    answers (.sceneWriteFirstPart (req 18) part) (committing lit) (replied .busy) = true := by decide +kernel

theorem test_an_equal_write_marks_nothing :
    (let s := { lit with cfg := { lit.cfg with scenes := lit.cfg.scenes.set 3 (some (partRec whole)) } }
     s.sceneAt 3 = some (partRec whole) ∧ answers (.sceneWriteFirstPart (req 20) whole) s (fun t =>
       t.dev.changed == 0 && replied .ok t) = true) ∧
    answers (.sceneDelete (req 1) 4) lit (fun t => t.dev.changed == 0 && replied .ok t) = true ∧
    answers (.sceneDelete (req 1) 3) lit (fun t => t.dev.changed == 4) = true ∧
    (let s := { base with cfg := { wired with bindings := wired.bindings.set 0 ((bindingOf bindPart).getD {}) } }
     answers (.bindingWrite (req 15) bindPart) s (fun t => t.dev.changed == 0 && replied .ok t) = true) := by
  decide +kernel

/-- `lit` with an assembly for slot 3 that has one of its three rows of one channel. -/
def half (lapse : Nat) : State :=
  let r : SceneRec := { aScene with chans := [4], steps := 3, rows := [[7]] }
  { lit with scene := { assembly := some ⟨3, r, lapse⟩ } }

theorem test_scene_continuation :
    ((half 0).Takes ∧ continuationLengthOk 5 [8] = true ∧ continuationLengthOk 6 [8] = true ∧
      continuationLengthOk 7 [8, 9] = true) ∧
    answers (.sceneWriteContinuation (req 5) 4 1 [8]) (half 0) (replied .notFound) = true ∧
    answers (.sceneWriteContinuation (req 5) 3 1 [8]) lit (replied .notFound) = true ∧
    answers (.sceneWriteContinuation (req 6) 3 1 [8]) (half 0) (replied .badLength) = true ∧
    answers (.sceneWriteContinuation (req 5) 3 1 [8]) (committing (half 0)) (replied .busy) = true ∧
    answers (.sceneWriteContinuation (req 5) 3 2 [8]) (half 0) (replied .outOfRange) = true ∧
    answers (.sceneWriteContinuation (req 5) 3 1 [1001]) (half 0) (replied .outOfRange) = true ∧
    answers (.sceneWriteContinuation (req 9) 3 1 [1, 2, 3]) (half 0) (replied .outOfRange) = true ∧
    answers (.sceneWriteContinuation (req 5) 3 1 [8]) (half 0) (fun t =>
      t.scene.assembly.map (fun a => (a.rcd.rows, a.lapse)) == some ([[7], [8]], 5000)) = true ∧
    answers (.sceneWriteContinuation (req 7) 3 1 [8, 9]) (half 0) (fun t => t.scene.assembly == none &&
      (t.sceneAt 3).map (·.rows) == some [[7], [8], [9]]) = true ∧
    (let c : Cfg := { lit.cfg with channels := { ch := tab 24 fun _ => { type := .beacon } } }
     answers (.sceneWriteContinuation (req 7) 3 1 [8, 9]) { half 0 with cfg := c } (fun t =>
       replied .conflict t && t.scene.assembly == none)) = true := by decide +kernel

theorem test_scene_delete :
    answers (.sceneDelete (req 1) 64) lit (replied .outOfRange) = true ∧
    answers (.sceneDelete (req 1) 3) (playing (aRun .dwell [4] [])) (replied .inUse) = true ∧
    answers (.sceneDelete (req 1) 63) (committing lit) (replied .busy) = true ∧
    answers (.sceneDelete (req 1) 3) lit (fun t => t.sceneAt 3 == none && t.usedCells == 0 && lit.usedCells == 4 &&
      replied .ok t) = true ∧
    answers (.sceneDelete (req 1) 63) lit (replied .ok) = true ∧
    answers .writeLapsed (half 0) (fun t => t.scene.assembly == none && noted .writeLapsed t) = true ∧
    answers .writeLapsed (half 1) (· == half 1) = true := by decide +kernel

/-- `lit` with a STATIC scene on channel 4 in slot 63. -/
def spot : State :=
  let r : SceneRec := ⟨.static, [4], 1, [[700]], 500, 0, 0, .holdLast, []⟩
  { lit with cfg := { lit.cfg with scenes := lit.cfg.scenes.set 63 (some r) } }

theorem test_player_start :
    (spot.Takes ∧ spot.Calm ∧ (spot.player 3).state = .idle ∧ (spot.chCfg 4).type = .dimmed ∧
      spot.sceneAt 62 = none ∧ codeIn busyModes .queue = 1 ∧ codeIn busyModes .ignore = 2) ∧
    answers (.playerStart (req 3) 3 63 0) spot (fun t => t.player 3 == { spot.player 3 with
        state := .fading, scene := some 63, active := [4], waiting := [4] } &&
      t.chan[4] == { spot.chan[4] with owner := .player 3, fade := some ⟨0, 700, 0, 500, 0⟩ } &&
      noted .playerStarted t && replied .ok t) = true ∧
    answers (.playerStart (req 3) 1 3 1) (playing (aRun .dwell [4] [])) (fun t =>
      (t.player 1).pendingTrig == some (3, .host)) = true ∧
    answers (.playerStart (req 3) 1 3 2) (playing (aRun .dwell [4] [])) (replied .busy) = true ∧
    answers (.playerStart (req 3) 1 62 0) spot (replied .notFound) = true ∧
    answers (.playerStart (req 3) 1 64 0) spot (replied .outOfRange) = true ∧
    answers (.playerStart (req 3) 4 63 0) spot (replied .outOfRange) = true ∧
    answers (.playerStart (req 3) 1 63 3) spot (replied .outOfRange) = true := by decide +kernel

theorem test_player_restarts :
    (let s := { playing (aRun .dwell [4, 5] []) with cfg := spot.cfg }
     let u := trigger 1 63 .restart .host s
     s.Takes ∧ s.Calm ∧ codeIn busyModes .restart = 0 ∧ s.sceneAt 63 = spot.sceneAt 63 ∧ (s.player 1).state ≠ .idle ∧
       s.chan[4].owner = .player 1 ∧ u.scene.idleWork = [(1, .aborted)] ∧
       (startOn 1 63 .host (u.modPlayer 1 fun x => { x with pendingTrig := none })).player 1 =
         { aRun .fading [4] [4] with scene := some 63, outcome := .aborted }) := by decide +kernel

/-- A start that completes at once overtakes a player whose pending trigger names an empty slot: by R56 the events are
those of P1, of P0 and of P1's second move in the order of the moves, or P1's second move before its first. -/
theorem test_done_events_follow_the_moves :
    (let r : SceneRec := ⟨.static, [4], 1, [[700]], 0, 0, 0, .holdLast, []⟩
     let s := cfgd (fun c => { c with scenes := c.scenes.set 63 (some r) })
       (playing { aRun .dwell [4] [] with pendingTrig := some (62, .host) })
     let u := startOn 0 63 .host s
     let tails := idleTails 40 u.scene.idleWork u.clearIdleWork
     s.sceneAt 62 = none ∧ u.scene.idleWork = [(1, .superseded), (0, .completed)] ∧
       (tails.state.player 1).pendingTrig = none ∧ (tails.state.player 1).outcome = .empty ∧
       doneOrder false u.scene.idleWork tails = [(1, .superseded), (0, .completed), (1, .empty)] ∧
       doneOrder true u.scene.idleWork tails = [(1, .empty), (1, .superseded), (0, .completed)]) := by decide +kernel

theorem test_player_stop :
    ((playing (aRun .dwell [4] [])).Calm ∧ (playing (aRun .dwell [4] [])).Takes) ∧
    answers (.playerStopFinish (req 2) 0 0) base (replied .ok) = true ∧
    answers (.playerStopFinish (req 2) 1 0) (playing (aRun .fading [4] [4])) (fun t =>
      t.player 1 == { aRun .fading [4] [4] with state := .stopping }) = true ∧
    answers (.playerStopFinish (req 2) 1 0) (playing (aRun .dwell [4] [])) (fun t => (t.player 1).state == .idle &&
      (t.player 1).outcome == .stopped && t.chan[4].owner == .none && t.chan[4].fade == none &&
      t.chan[5].owner == .player 1) = true ∧
    answers (.playerStopFinish (req 2) 1 2) base (replied .outOfRange) = true ∧
    answers (.playerStopFinish (req 2) 4 0) base (replied .outOfRange) = true ∧
    answers (.playerStopAbort (req 2) 0 1) base (replied .ok) = true ∧
    answers (.playerStopAbort (req 2) 1 1) (playing (aRun .fading [4] [4])) (fun t => (t.player 1).state == .idle &&
      (t.player 1).outcome == .aborted && (t.player 1).active == [] && t.chan[4].owner == .none &&
      noted .playerDone t) = true ∧
    answers (.playerStopAbort (req 2) 4 1) base (replied .outOfRange) = true := by decide +kernel

/-- A dwell of `aScene` that is over, in a row and with repeats done. -/
def dwelt (row reps : Nat) : State :=
  playing { aRun .dwell [4, 5] [] with step := row, repeats := reps, dwell := some 0 }

theorem test_dwell_ends :
    (let s := dwelt 0 0
     s.Calm ∧ s.sceneAt 3 = some aScene ∧ (s.player 1).active.Nodup ∧ (s.chCfg 4).type = .dimmed ∧
       (s.chCfg 5).type = .dimmed ∧ (s.player 1).step + 1 < aScene.steps ∧ aScene.repeats = 2) ∧
    answers (.dwellEnd 1) (dwelt 0 0) (fun t =>
      t.player 1 == { (dwelt 0 0).player 1 with state := .fading, step := 1, dwell := none, waiting := [4, 5] } &&
      t.chan[4].fade == some ⟨0, 1000, 0, 500, 0⟩ && t.chan[5].fade == some ⟨0, 0, 0, 500, 0⟩) = true ∧
    answers (.dwellEnd 1) (dwelt 1 0) (fun t => (t.player 1).step == 0 && (t.player 1).repeats == 1 &&
      t.chan[5].fade == some ⟨0, 200, 0, 500, 0⟩) = true ∧
    (let s (b : EndBehaviour) := cfgd (fun c => { c with scenes := c.scenes.set 3 (some { aScene with endB := b }) }) (dwelt 1 1)
     answers (.dwellEnd 1) (s .toFirst) (fun t => t.chan[5].fade == some ⟨0, 200, 0, 500, 0⟩ && t.player 1 ==
         { (dwelt 1 1).player 1 with state := .fading, step := 0, repeats := 2, endFade := true, dwell := none
                                     waiting := [4, 5] }) = true ∧
       answers (.dwellEnd 1) (s .allOff) (fun t => t.chan[5].fade == some ⟨0, 0, 0, 500, 0⟩ &&
         (t.player 1).step == 1 && (t.player 1).endFade && (t.player 1).state == .fading) = true) ∧
    answers (.dwellEnd 1) (dwelt 1 1) (fun t => (t.player 1).state == .idle && (t.player 1).outcome == .completed &&
      (t.player 1).repeats == 2 && t.chan[4].owner == .none) = true := by decide +kernel

theorem test_fade_ends :
    (let s := playing (aRun .fading [4, 5] [4])
     s.Calm ∧ s.chan[4].fade = some ⟨0, 100, 480, 500, 20⟩ ∧ s.chan[4].owner = .player 1) ∧
    answers (.fadeStep 4) (playing (aRun .fading [4, 5] [4])) (fun t => t.chan[4].level == 100 &&
      t.player 1 == { aRun .fading [4, 5] [] with state := .dwell, dwell := some 1000 }) = true ∧
    answers (.fadeStep 4) (playing { aRun .fading [4, 5] [4] with endFade := true }) (fun t =>
      (t.player 1).outcome == .completed && t.chan[4].owner == .none) = true ∧
    answers (.fadeStep 4) (playing (aRun .stopping [4, 5] [4])) (fun t => (t.player 1).outcome == .stopped &&
      (t.player 1).state == .idle) = true ∧
    answers (.fadeStep 4) { playing { aRun .fading [4] [4] with scene := some 63 } with cfg := spot.cfg } (fun t =>
      (t.player 1).outcome == .completed && t.chan[4].owner == .none) = true := by decide +kernel

/-! ### Inputs -/

/-- A digital input in a state, and with the other figures of its record. -/
def withDi (n : Fin 16) (d : DiRt) (k : DiCfg) : State :=
  { base.setDi n d with cfg := { wired with general := { wired.general with di := wired.general.di.set n k } } }
/-- A LEVEL input with a stuck limit of 1 s, and a PULSE input. -/
def level : DiCfg := { role := .general, stuckLimit := 1 }
/-- See `level`. -/
def pulsed : DiCfg := { role := .general, pulse := true }

theorem test_level_filter :
    (base.Calm ∧ base.Unwatched ∧ (base.diCfg 13).role = .general ∧ (base.diCfg 13).tStable = 20 ∧
      (base.diCfg 9).role = .swimZone ∧ (base.diCfg 15).role = .unused) ∧
    answers (.levelFilterChange 13 true 19) base (fun t => t == base.setDi 13 ⟨true, 19, false, true, false, 0⟩) =
      true ∧
    answers (.levelFilterChange 13 true 20) { base with link := { base.link with enabled := 0x3FF } } (fun t =>
      t.diRt 13 == ⟨true, 20, true, true, false, 0⟩ && noted .inActive t) = true ∧
    answers (.levelFilterChange 13 false 20) (withDi 13 ⟨true, 9, true, true, true, 9⟩ level) (fun t =>
      t.diRt 13 == ⟨false, 20, false, true, false, 0⟩) = true ∧
    answers (.levelFilterChange 15 true 999) base (· == base) = true := by decide +kernel

theorem test_inputs_settle_and_stick :
    (let s := withDi 13 ⟨true, 9, true, true, false, 1000⟩ level
     s.Calm ∧ s.Unwatched ∧ (s.diCfg 13).stuckLimit * 1000 ≤ (s.diRt 13).since) ∧
    answers (.inputSettled 13 20) (withDi 13 {} level) (fun t => (t.diRt 13).settled) = true ∧
    answers (.inputSettled 13 5) (withDi 13 {} pulsed) (fun t => (t.diRt 13).settled) = true ∧
    answers (.inputSettled 13 20) base (· == base) = true ∧
    answers (.stuck 13) (withDi 13 ⟨true, 9, true, true, false, 1000⟩ level) (fun t => (t.diRt 13).stuck) = true ∧
    answers (.stuck 13) base (· == base) = true := by decide +kernel

theorem test_pulses :
    (let s := withDi 13 { settled := true } pulsed
     s.Calm ∧ (s.diCfg 13).pulse = true ∧ (s.diCfg 13).pulseMin = 20 ∧ (s.diCfg 13).pulseMax = 1000 ∧
       s.validated 13 = false) ∧
    (let s := { withDi 13 { settled := true, run := 9 } pulsed with link := { base.link with enabled := 0x3FF } }
     let after (since run : Nat) := s.setDi 13 ⟨false, run, true, true, false, since⟩
     answers (.levelFilterChange 13 true 1) s (· == s.setDi 13 ⟨true, 1, true, true, false, 0⟩) = true ∧
       answers (.levelFilterChange 13 true 20) s (fun t => (t.diRt 13).since == 19 &&
         (t.diRt 13).width (t.diCfg 13) == 19) = true ∧
       answers (.levelFilterChange 13 true 1) (after 30 4) (· == s.setDi 13 ⟨true, 1, true, true, false, 30⟩) = true ∧
       answers (.levelFilterChange 13 false 1) (s.setDi 13 ⟨true, 9, true, true, false, 9⟩) (· == after 9 1) = true ∧
       answers (.inputPulse 13 4) (after 24 4) (· == after 24 4) = true ∧
       answers (.inputPulse 13 5) (after 25 5) (fun t => noted .inPulse t &&
         (t.link.queue.map (·.values)) == [[20]] && t.diRt 13 == ⟨false, 5, false, true, false, 0⟩) = true ∧
       answers (.inputPulse 13 5) (after 1005 5) (noted .inPulse) = true ∧
       answers (.inputPulse 13 5) (after 24 5) (fun t => t.link.queue.isEmpty && !(t.diRt 13).filtered) = true ∧
       answers (.inputPulse 13 5) s (· == s) = true ∧
       answers (.pulseStuck 13 1001) (s.setDi 13 ⟨true, 1, true, true, false, 1001⟩) (fun t => (t.diRt 13).stuck &&
         noted .inStuck t) = true ∧
       answers (.pulseStuck 13 1001) (s.setDi 13 ⟨true, 1, false, false, false, 1001⟩) (fun t => (t.diRt 13).stuck) = true ∧
       answers (.pulseStuck 13 1000) (after 1003 3) (· == after 1003 3) = true ∧
       answers (.pulseStuck 13 1002) (after 1004 3) (· == after 1004 3) = true ∧
       answers (.inputPulse 13 5) (after 1006 5) (fun t => noted .stuckCleared t &&
         t.diRt 13 == ⟨false, 5, false, true, false, 0⟩) = true ∧
       answers (.inputPulse 13 5) (s.setDi 13 ⟨false, 5, true, true, true, 2000⟩) (fun t =>
         !(t.diRt 13).stuck && noted .stuckCleared t) = true) ∧
    answers (.levelFilterChange 13 true 1) (withDi 13 {} pulsed) (fun t => !(t.diRt 13).filtered) = true := by
  decide +kernel

/-- Analog input 0 in a state. -/
def withAi (d : AiRt) : State := base.setAi 0 d

theorem test_analog_inputs :
    (let k := base.aiCfg 0
     k.role = .platPosition ∧ k.rawLo = 0 ∧ k.rawHi = 4000 ∧ k.eHi = 1000 ∧ k.margin = 100 ∧
       k.inside 4100 = true ∧ k.inside 4101 = false) ∧
    answers (.analogConversion 0 4000) base (fun t => (t.aiRt 0).value == some 1000) = true ∧
    answers (.analogConversion 0 4095) base (fun t => t.aiRt 0 == ⟨some 1000, true, false, none, 4095⟩) = true ∧
    answers (.analogConversion 0 3) base (fun t => (t.aiRt 0).value == some 0) = true ∧
    (let s := { base with cfg := { wired with general := { wired.general with
       ai := wired.general.ai.set 0 { wired.general.ai[0] with rawLo := 300, rawHi := 3900, eLo := 1000, eHi := 0 } } } }
     answers (.analogConversion 0 200) s (fun t => (t.aiRt 0).value == some 1000) = true ∧
       answers (.analogConversion 0 199) s (fun t => t.aiRt 0 == ⟨none, true, true, none, 199⟩) = true ∧
       answers (.analogConversion 0 4001) s (fun t => (t.aiRt 0).fault) = true ∧
       answers (.analogConversion 0 2099) s (fun t => (t.aiRt 0).value == some 501) = true ∧
       answers (.analogConversion 0 199) (s.setAi 0 { fault := true, recovery := some 499 }) (fun t =>
         (t.aiRt 0).recovery == none) = true) ∧
    answers (.analogConversion 0 4) (withAi { fault := true }) (fun t => (t.aiRt 0).recovery == some 0) = true ∧
    answers (.analogConversion 0 4) (withAi { fault := true, recovery := some 499 }) (fun t =>
      (t.aiRt 0).fault && (t.aiRt 0).lastRaw == 4) = true ∧
    answers (.analogConversion 0 4) (withAi { fault := true, recovery := some 500 }) (fun t =>
      t.aiRt 0 == ⟨some 1, true, false, none, 4⟩) = true ∧
    answers (.sensorOk 0 4) (withAi { fault := true, recovery := some 500 }) (fun t =>
      t.aiRt 0 == ⟨some 1, true, false, none, 4⟩) = true ∧
    answers (.sensorOk 0 4) (withAi { fault := true, recovery := some 499 }) (fun t => (t.aiRt 0).fault) = true := by
  decide +kernel

/-- `base` with a bus and motor-current range whose ends lie inside the raw range, so that a fault can be seen. -/
def sensed (x : Axis) (p : Pack) (w : Windlass) : State :=
  let ai : Vector AiCfg 4 := tab 4 fun n => { wired.general.ai[n] with rawLo := 300 }
  { (withAxis .platform x p) with wl := w, cfg := { wired with general := { wired.general with ai := ai } } }

theorem test_readers :
    (let s := sensed { state := .extending } { axis := some .platform } { state := .lowering }
     s.Calm ∧ s.stern.seq.running = false ∧ s.analogInput .busVoltage = some 2 ∧ (s.aiCfg 2).role = .busVoltage ∧
       s.budget.supply = .normal ∧ s.analogInput .platPosition = some 0 ∧ s.analogInput .windlassCurrent = some 3 ∧
       s.stern.hatch.state.watched = false ∧ s.wl.state.powered = true ∧ (s.aiCfg 0).inside 199 = false) ∧
    answers (.analogConversion 2 2874) base (fun t => t.budget.dwell == some (.brownout, 0)) = true ∧
    answers (.analogConversion 2 2875) base (fun t => t.budget.dwell == none) = true ∧
    (let s := sensed { state := .extending } { axis := some .platform, pump := .running }
       { state := .lowering, down := true }
     answers (.analogConversion 2 0) s (fun t => t.budget.supply == .brownout && t.budget.held) = true ∧
     answers (.analogConversion 0 0) { s with budget := { res := { stern := some 400 } } } (fun t =>
       (t.axis .platform).state == .fault && t.stern.pack == {} && t.budget.res.stern == none &&
       (t.axis .platform).fault == some ⟨.positionSensor, .extending, none, 0, 0⟩) = true ∧
     answers (.analogConversion 3 0) s (fun t => t.wl.state == .braking && t.wl.brakingEnd == some .fault &&
       t.wl.faultRec == some ⟨.currentSensor, .lowering, 0, none, 0⟩ && !t.wl.down) = true) := by decide +kernel

theorem test_the_watch_faults :
    (let s := sensed { state := .halted } {} {}
     let x : Axis := { state := .extending, runMs := 7, holder := .host }
     let u := { s with stern := { s.stern with hatch := x, pack := { axis := some .hatch, pump := .running } } }
     u.Calm ∧ u.stern.seq.running = false ∧ (u.aiCfg 0).valueOf 599 < u.cfg.limits.hatchClearance ∧
     answers (.analogConversion 0 599) u (fun t => (t.axis .hatch).fault ==
         some ⟨.interlock, .extending, some 500, 7, Interlock.platformNotClear.code⟩ && t.stern.pack == {} &&
       t.axis .platform == u.axis .platform) = true) ∧
    (let s := sensed { state := .retracting, target := 300 } { axis := some .platform, pump := .running } {}
     let u := { s with stern := { s.stern with hatch := { state := .stowed } } }
     u.Calm ∧ u.stern.platform.target < u.cfg.limits.hatchClearance ∧
     answers (.analogConversion 1 0) u (fun t => (t.axis .hatch).fault.map (·.cause) == some .positionSensor &&
       (t.axis .platform).fault == some ⟨.interlock, .retracting, some 500, 0, Interlock.hatchNotStowed.code⟩ &&
       t.stern.pack == {}) = true) ∧
    (let s := withAxis .hatch { state := .retracting }
     s.roleInput .tenderCradle = some 10 ∧ answers (.levelFilterChange 10 true 20) s (fun t => (t.axis .hatch).fault ==
       some ⟨.interlock, .retracting, some 500, 0, Interlock.tenderInPath.code⟩) = true) := by decide +kernel

/-- A CONTINUOUS term 9 on a subject, which input 13 makes false. -/
def termed (sub : Subject) (s : State) : State :=
  let t : Term := { enabled := true, continuous := true, subject := sub, dir := .any, cond := .inputInactive, param := 13 }
  { s with cfg := { s.cfg with limits := { s.cfg.limits with terms := s.cfg.limits.terms.set 9 t } } }

/-- Input 13 shown active, and the free choice of R88 left open: who takes it first. -/
def shown13 (s : State) (p : State → Bool) : Bool :=
  let off : Offer := offerNow
  p (recheck off [.input 13] (s.setDi 13 { pin := true, run := 20, filtered := true, settled := true }))

theorem test_permits_are_checked_again :
    (let s := termed .platform (withAxis .platform { state := .extending })
     s.Calm ∧ (s.diCfg 13).role = .general ∧ (∀ j : Fin 16, j ≠ 9 → s.cfg.limits.terms[j].enabled = false) ∧
       shown13 s (fun t => (t.axis .platform).fault == some ⟨.permit, .extending, some 500, 0, 9⟩ &&
         t.axis .hatch == s.axis .hatch) = true) ∧
    shown13 (termed .hatch (withAxis .hatch { state := .unlatching, latchHold := true })) (fun t =>
      (t.axis .hatch).fault == some ⟨.permit, .unlatching, some 500, 0, 9⟩) = true ∧
    shown13 (termed .windlass (withWl { state := .lowering, down := true, lastCurrent := some 7 })) (fun t =>
      t.wl.brakingEnd == some .fault && t.wl.faultRec == some ⟨.permit, .lowering, 0, some 7, 9⟩) = true := by
  decide +kernel

theorem test_foot_holds :
    (base.roleInput .footDown = some 8 ∧ base.roleInput .footUp = some 7) ∧
    answers (.levelFilterChange 8 true 20) (withWl { state := .hoisting, up := true, holder := .host }) (fun t =>
      t.wl.state == .braking && t.wl.conflict && t.wl.holds == [⟨.footDown, .down⟩]) = true ∧
    answers (.levelFilterChange 7 true 20) (withWl { state := .hoisting, up := true, holder := .host }) (fun t =>
      t.wl.state == .hoisting && t.wl.holds == [⟨.footUp, .up⟩] && noted .wlHoldIgnored t) = true ∧
    answers (.levelFilterChange 8 false 20) (active .footDown
      (withWl { state := .lowering, down := true, holder := .foot, holds := [⟨.footDown, .down⟩] })) (fun t =>
      t.wl.state == .braking && t.wl.holder == .none && t.wl.holds == []) = true ∧
    answers (.levelFilterChange 8 false 20) (active .footDown
      (withWl { conflict := true, holds := [⟨.footUp, .up⟩, ⟨.footDown, .down⟩] })) (fun t => t.wl.conflict) = true ∧
    answers (.levelFilterChange 8 false 20) (active .footDown
      (withWl { conflict := true, holds := [⟨.footDown, .down⟩] })) (fun t => !t.wl.conflict &&
      noted .conflictCleared t) = true := by decide +kernel

/-- The chain decoder with its accumulator, the windlass in a state. -/
def chained (acc : Int) (w : Windlass) : State :=
  { withWl w with inp := { base.inp with chain := { running := true, sensor := (false, false), acc := acc } } }

theorem test_chain_pulses :
    (base.Calm ∧ base.Unwatched ∧ base.roleActive .anchorHome = false) ∧
    answers (.chainSensorStateChange true true) { base with inp := { base.inp with chain := {} } } (fun t =>
      t.inp.chain == ⟨false, (true, true), 0⟩) = true ∧
    answers (.chainSensorStateChange true false) { base with inp := { base.inp with chain := { running := true } } }
      (fun t => t.inp.chain == ⟨true, (true, false), 1⟩) = true ∧
    answers (.chainSensorStateChange true false) (chained 2 {}) (fun t => t.inp.chain.acc == 3) = true ∧
    answers (.chainSensorStateChange false true) (chained (-2) {}) (fun t => t.inp.chain.acc == -3) = true ∧
    answers (.chainSensorStateChange true true) (chained 2 { state := .lowering, errors := 65535 }) (fun t =>
      t.inp.chain.acc == 0 && t.wl.errors == 65535) = true ∧
    answers (.chainSensorStateChange true false) (chained 3 { count := 59, status := .verified }) (fun t =>
      t.wl.count == 60 && t.inp.chain.acc == 0 && t.wl.creep == some (1, 0) && t.vessel.anchored &&
      t.wl.status == .verified) = true ∧
    answers (.chainSensorStateChange false true) (chained (-3) { count := 1 }) (fun t => t.wl.count == 0 &&
      !t.vessel.anchored && t.wl.creep == some (-1, 0)) = true := by decide +kernel

/-- A pulse in OUT order, and one in IN order, in a run. -/
def pulseOut (w : Windlass) (p : State → Bool) : Bool :=
  answers (.chainSensorStateChange true false) (chained 3 w) p
/-- See `pulseOut`. -/
def pulseIn (w : Windlass) (p : State → Bool) : Bool :=
  answers (.chainSensorStateChange false true) (chained (-3) w) p

/-- The run has ended in BRAKING with a notice of a cause. -/
def stoppedFor (why : StopCause) (t : State) : Bool :=
  t.wl.state == .braking && t.wl.brakingEnd == some .idle &&
    t.link.queue.any fun n => n.note == .wlStopped && n.values.head? == some (codeIn stopCauses why : Int)

theorem test_clamped_pulses :
    answers (.chainSensorStateChange true false) (chained 3 { count := 9999 }) (fun t => t.wl.count == 9999 &&
      t.wl.status == .drifted && t.wl.creep == some (1, 0) && t.link.queue.map (fun n => (n.note, n.values)) ==
        [(.creepStart, [9999]), (.countDrifted, [9999, 0]), (.anchoredSet, [24997])]) = true ∧
    answers (.chainSensorStateChange false true) (chained (-3) { creep := some (3, 9), driftNoted := true }) (fun t =>
      t.wl.status == .drifted && t.wl.creep == some (2, 0) && t.link.queue.isEmpty) = true ∧
    answers (.chainSensorStateChange true false) (active .anchorHome (chained 3 {})) (fun t => t.wl.count == 0 &&
      t.wl.creep == some (1, 0)) = true ∧
    (let w : Windlass := { state := .hoisting, mode := some .hold, up := true, disagree := 5 }
     pulseIn w (fun t => t.wl == { w with disagree := 0, status := .drifted, driftNoted := true } &&
       noted .countDrifted t) = true ∧
       pulseIn { w with driftNoted := true } (fun t => t.link == base.link) = true) := by decide +kernel

theorem test_a_pulse_takes_the_first_of_its_ends :
    pulseOut { state := .lowering, mode := some .lowerTo, target := some 400, count := 399, down := true }
      (stoppedFor .target) = true ∧
    pulseOut { state := .lowering, mode := some .lowerTo, target := some 9999, count := 399, down := true }
      (stoppedFor .rodEnd) = true ∧
    pulseIn { state := .lowering, mode := some .hold, down := true, disagree := 7, count := 401 } (fun t =>
      t.wl.faultRec == some ⟨.chainReversed, .lowering, 400, none, 0⟩ && t.wl.brakingEnd == some .fault) = true ∧
    pulseOut { state := .hoisting, mode := some .hoistHome, up := true, disagree := 7, count := 9 } (fun t =>
      t.wl.faultRec == some ⟨.chainReversed, .hoisting, 10, none, 0⟩) = true := by decide +kernel

/-- A switch of a role is shown as given, on a state whose inputs have all settled. -/
def switched (role : DiRole) (on : Bool) (s : State) (p : State → Bool) : Bool :=
  match s.roleInput role with
  | some n => answers (.levelFilterChange n on 20) s p
  | none => false

theorem test_the_home_switch :
    switched .anchorHome true (withWl { state := .lowering, down := true, count := 7, status := .drifted }) (fun t =>
      t.wl == { state := .lowering, down := true, status := .verified } && noted .homeSet t) = true ∧
    switched .anchorHome true (withWl { state := .jogging, up := true, jogOn := true, count := 7 }) (fun t =>
      stoppedFor .home t && t.wl == { state := .braking, brakingEnd := some .idle, status := .verified } &&
        (t.link.queue.map (·.values)) == [[7], [(codeIn stopCauses .home : Int), 0, 0, 0]]) = true := by decide +kernel

theorem test_the_shore_input :
    (base.cfg.general.shoreInputWins = false) ∧
    (let s (src : Source) := { cfgd (fun c => { c with general := { c.general with shoreInputWins := true } }) base with
       vessel := { fresh := some 9, source := .gen1, active := src } }
     switched .shorePresent true (s .gen1) (fun t => t.vessel.active == .shore && t.budget.last.limit == 4000 &&
         noted .sourceChanged t) = true ∧
       switched .shorePresent false (active .shorePresent (s .shore)) (fun t => t.vessel.active == .gen1 &&
         noted .sourceChanged t) = true ∧
       switched .shorePresent true { s .battery with vessel := { fresh := none, active := .battery } } (fun t =>
         t.vessel.active == .battery && t.link.queue.isEmpty) = true) ∧
    switched .shorePresent true base (fun t => t.vessel == base.vessel) = true := by decide +kernel

/-- SHORE_INPUT_WINS set, GEN1 reported, and a CONTINUOUS term 9 on a subject that the source is GEN1. -/
def sourced (sub : Subject) (fresh : Bool) (s : State) : State :=
  cfgd (fun c => { c with
      general := { c.general with shoreInputWins := true }
      limits := { c.limits with terms := c.limits.terms.set 9 { c.limits.terms[9] with
        enabled := true, continuous := true, subject := sub, dir := .any, cond := .sourceIs,
        param := codeIn sources .gen1 } } })
    { s with vessel := { fresh := if fresh then some 9 else none, source := .gen1,
                         active := if fresh then .gen1 else .battery } }

theorem test_the_shore_input_fails_source_terms :
    (let s := sourced .platform true (withAxis .platform { state := .extending })
     s.Calm ∧ (∀ j : Fin 16, j ≠ 9 → s.cfg.limits.terms[j].enabled = false) ∧
       switched .shorePresent true s (fun t => (t.axis .platform).fault == some ⟨.permit, .extending, some 500, 0, 9⟩ &&
         t.vessel.active == .shore &&
         (t.link.queue.map (·.note)).filter (fun x => x == .sourceChanged || x == .axFault) ==
           [.sourceChanged, .axFault]) = true) ∧
    switched .shorePresent true (sourced .hatch false (withAxis .hatch { state := .extending })) (fun t =>
      (t.axis .hatch).fault == some ⟨.permit, .extending, some 500, 0, 9⟩ && t.vessel.active == .battery) = true ∧
    switched .shorePresent true (sourced .windlass true (withWl { state := .lowering, down := true })) (fun t =>
      t.wl.faultRec == some ⟨.permit, .lowering, 0, none, 9⟩ && t.vessel.active == .shore &&
      (t.link.queue.map (·.note)).filter (fun x => x == .sourceChanged || x == .wlFault) ==
        [.sourceChanged, .wlFault]) = true := by decide +kernel

theorem test_a_stowed_axis_is_watched :
    (let s := active .platStowEnd (withAxis .platform { state := .stowed })
     let latched (t : State) := (t.axis .platform).fault == some ⟨.latch, .stowed, some 500, 0, 0⟩
     s.Calm ∧ switched .platStowEnd false s latched = true ∧ switched .platLatchFree true s latched = true ∧
       (match s.roleInput .platStowEnd with
        | none => false
        | some n =>
          let u := cfgd (fun c => { c with general :=
            { c.general with di := c.general.di.set n { c.general.di[n] with stuckLimit := 1 } } }) s
          answers (.stuck n) (u.setDi n { u.diRt n with since := 1000 }) latched &&
            answers (.configWrite (req 13) 0 n [13, 0, 0, 20, 0, 0, 0, 20, 0, 100, 0]) s (fun t => latched t &&
              t.diRt n == { pin := true }) &&
            answers (.configWrite (req 13) 0 n [13, 0, 0, 20, 0, 0, 0, 20, 0, 100, 0])
              { s.setDi n { s.diRt n with stuck := true } with link := { s.link with enabled := 0x3FF } }
              (fun t => latched t && noted .axFault t && t.link.queue.any (·.note == .stuckCleared))) = true) ∧
    answers (.configWrite (req 13) 0 13 [13, 1, 0, 20, 0, 0, 0, 20, 0, 100, 0])
      { base.setDi 13 { filtered := true, stuck := true } with link := { base.link with enabled := 0x3FF } }
      (fun t => noted .stuckCleared t && t.diRt 13 == {}) = true := by decide +kernel

/-- A role write that removes the latch input of a STOWED axis, or a stow end that reads inactive already, faults it
(R105); one that keeps the role, and one on an axis off its seat, does not. -/
theorem test_a_stowed_axis_keeps_its_roles :
    (let s (a : AxisId) := withAxis a { state := .stowed }
     let rewritten (r : DiRole) (v : List Byte) (u : State) (p : State → Bool) : Bool :=
       match u.roleInput r with
       | none => false
       | some n => answers (.configWrite (req 13) 0 n (v ++ [0, 20, 0, 0, 0, 20, 0, 100, 0])) u p
     let latched (a : AxisId) (t : State) := (t.axis a).fault == some ⟨.latch, .stowed, some 500, 0, 0⟩
     (s .hatch).Calm ∧ (s .platform).Calm ∧ (s .hatch).Unwatched ∧
       axisIds.all (fun a => rewritten (latchRole a) [13, 0] (s a) (fun t => latched a t && noted .axFault t) &&
         rewritten (stowRole a) [14, 0] (s a) (latched a) &&
         rewritten (latchRole a) [13, 0] base (fun t => (t.axis a).state == .halted)) = true ∧
       rewritten .hatchLatchFree [5, 1] (s .hatch) (fun t => (t.axis .hatch).state == .stowed &&
         !(t.diCfg 5).activeHigh) = true) := by decide +kernel

theorem test_runs_end_at_a_pulse :
    (let s := chained 3 { state := .lowering, mode := some .lowerTo, target := some 60, count := 59 }
     s.Calm ∧ s.Unwatched ∧ s.roleActive .anchorHome = false ∧ s.vessel.anchored = false ∧
       s.cfg.windlass.maxRod = 400 ∧ s.cfg.limits.freefallMin = 150) ∧
    pulseOut { state := .lowering, mode := some .lowerTo, target := some 60, count := 59, down := true }
      (stoppedFor .target) = true ∧
    pulseOut { state := .lowering, mode := some .hold, count := 399, down := true } (stoppedFor .rodEnd) = true ∧
    pulseOut { state := .freeFall, target := some 60, count := 59 } (stoppedFor .target) = true ∧
    pulseOut { state := .freeFall, target := some 401, count := 399 } (stoppedFor .rodEnd) = true ∧
    (let w : Windlass := { state := .freeFall, target := some 401, count := 9, lastOut := some 51, lastGap := some 40 }
     answers (.chainSensorStateChange true false) { chained 3 w with dev := { uptime := 200 } } (fun t =>
       stoppedFor .overspeed t && t.link.queue.any (·.note == .overspeed)) = true) ∧
    pulseOut { state := .hoisting, up := true, disagree := 7, count := 9 } (fun t => t.wl.brakingEnd == some .fault &&
      t.wl.faultRec == some ⟨.chainReversed, .hoisting, 10, none, 0⟩) = true ∧
    pulseIn { state := .lowering, mode := some .hold, down := true, disagree := 7, count := 9 } (fun t =>
      t.wl.brakingEnd == some .fault && t.wl.faultRec == some ⟨.chainReversed, .lowering, 8, none, 0⟩) = true ∧
    pulseIn { state := .hoisting, mode := some .hoistHome, up := true, count := 22 } (fun t =>
      t.wl.state == .hoisting && t.wl.count == 21) = true ∧
    pulseIn { state := .hoisting, mode := some .hoistHome, up := true, count := 21 } (fun t =>
      t.wl.state == .jogging && t.wl.jogOn && t.wl.jogs == 0) = true ∧
    pulseIn { state := .hoisting, mode := some .hoistHome, up := true, count := 1 } (fun t =>
      t.wl.state == .jogging && t.wl.jogs == 1) = true := by decide +kernel

theorem test_staleness :
    answers .stalenessTimerExpiry { base with vessel := { fresh := some 0, source := .shore, active := .shore } }
      (fun t => t.vessel.fresh == none && t.vessel.active == .battery && noted .sourceChanged t) = true ∧
    answers .stalenessTimerExpiry { base with vessel := { fresh := some 0 } } (fun t => noted .vesselStale t &&
      t.vessel.fresh == none) = true := by decide +kernel

/-! ### Stern motion -/

/-- The platform STOWED at 0, the hatch STOWED at its closed end. -/
def stowed : State :=
  { active .hatchClosedEnd (active .platStowEnd (base.setAi 0 (shows 0))) with
    stern := { platform := { state := .stowed }, hatch := { state := .stowed } } }
/-- `base` with the hatch STOWED. -/
def closed : State := { base with stern := { hatch := { state := .stowed } } }

theorem test_axis_move_begins :
    (stowed.Takes ∧ stowed.Calm ∧ stowed.Unwatched ∧ stowed.stern.seq.running = false ∧
      failingInterlock .platform 300 stowed = none ∧ stowed.roleHeld .platLatchFree = true ∧
      settleTarget .platform 1 stowed.cfg.limits = 300 ∧ settleTarget .platform 1001 stowed.cfg.limits = 1000 ∧
      failingInterlock .platform 1000 closed = none ∧ failingInterlock .platform 0 closed = none ∧
      failingInterlock .hatch 1000 { base with stern := { clearance := 300 } } = none ∧
      stowed.budget.last.c0 + stowed.budget.res.total + 400 + 100 ≤ stowed.cfg.supply.limit .battery) ∧
    answers (.axisMove (req 3) 0 1) stowed (fun t => (t.axis .platform).state == .unlatching &&
      (t.axis .platform).target == 300 && (t.axis .platform).latchHold && t.budget.res.stern == some 400 &&
      t.stern.pack == {} && (t.axis .platform).holder == .host && replied .ok t) = true ∧
    answers (.axisMove (req 3) 0 501) closed (fun t => (t.axis .platform).state == .extending &&
      t.stern.pack.pump == .lead && t.stern.pack.axis == some .platform && t.stern.pack.valve == none) = true ∧
    answers (.axisMove (req 3) 0 499) closed (fun t => (t.axis .platform).state == .retracting &&
      (t.axis .platform).target == 499) = true ∧
    answers (.axisMove (req 3) 0 0) closed (fun t => (t.axis .platform).state == .retracting &&
      (t.axis .platform).target == 0 && t.budget.res.stern == some 400) = true ∧
    answers (.axisMove (req 3) 0 0) (active .platStowEnd closed) (fun t => (t.axis .platform).state == .stowed &&
      (t.axis .platform).holder == .none && t.budget.res.stern == none && replied .ok t) = true := by decide +kernel

theorem test_axis_move_is_checked :
    (closed.Takes ∧ closed.Between ∧ closed.moveFor .platform 500 = none ∧
      closed.moveFor .platform 1000 = some .extend ∧ closed.lacksRole .platform 0 = false) ∧
    answers (.axisMove (req 3) 2 0) closed (replied .outOfRange) = true ∧
    answers (.axisMove (req 3) 1 500) closed (replied .outOfRange) = true ∧
    answers (.axisMove (req 3) 0 0) (withAxis .platform { state := .fault }) (replied .faulted) = true ∧
    answers (.axisMove (req 3) 0 0) (withAxis .platform { state := .latching }) (replied .busy) = true ∧
    answers (.axisMove (req 3) 0 0) (closed.setSeq { state := .step1 }) (replied .busy) = true ∧
    answers (.axisMove (req 3) 0 0) (withAxis .platform { cooldown := some 1 }) (replied .lockout) = true ∧
    answers (.axisMove (req 3) 0 500) closed (replied .ok) = true ∧
    answers (.axisMove (req 3) 0 0) { base with cfg := {} } (replied .notReady) = true ∧
    answers (.axisMove (req 3) 0 599) base (fun t => replied .interlock t &&
      t.link.replies.map (·.detail) == [3]) = true ∧
    (let t : Term := { enabled := true, cond := .anchored }
     let s := cfgd (fun c => { c with limits := { c.limits with terms := c.limits.terms.set 9 t } }) closed
     axisPermit .platform 1000 .outward s = some (.notPermitted, 9) ∧
       answers (.axisMove (req 3) 0 1000) s (fun t => replied .notPermitted t &&
         t.link.replies.map (·.detail) == [9]) = true) ∧
    answers (.axisMove (req 3) 0 1000) { closed with budget := { supply := .brownout } } (replied .supplyLow) = true := by
  decide +kernel

theorem test_interlocks :
    failingInterlock .hatch 0 base = some .platformNotClear ∧
    failingInterlock .platform 1000 (withAxis .hatch { state := .latching }) = some .hatchMoving ∧
    failingInterlock .platform 599 base = some .hatchNotStowed ∧ failingInterlock .platform 600 base = none ∧
    (let s := base.setAi 0 (shows 600)
     s.platformClear = true ∧ (base.setAi 0 (shows 599)).platformClear = false ∧
       failingInterlock .hatch 0 (active .tenderCradle s) = some .tenderInPath ∧
       failingInterlock .hatch 1000 (active .tenderCradle s) = none) ∧
    failingInterlock .platform 0 (active .platLatchFree closed) = some .latchOpen ∧
    failingInterlock .hatch 0 (active .hatchLatchFree (base.setAi 0 (shows 600))) = some .latchOpen ∧
    answers (.axisMove (req 3) 1 0) (withAxis .hatch { state := .stowed }) (replied .ok) = true ∧
    answers (.axisMove (req 3) 1 0) base (replied .interlock) = true ∧
    answers (.axisMove (req 3) 1 0) { withAxis .hatch { state := .stowed } with cfg := {} } (replied .notReady) = true ∧
    (let s := { withAxis .platform {} { pump := .runOn, axis := some .platform } with
       stern := { closed.stern with pack := { pump := .runOn, axis := some .platform } }
       budget := { supply := .brownout, res := { stern := some 399 } } }
     (reserveFor .stern 400 s).toOption = none ∧ answers (.axisMove (req 3) 0 1000) s (replied .supplyLow) = true) := by decide +kernel

/-- An axis that drives outward with its valve open. -/
def drives (a : AxisId) (x : Axis) : State :=
  { withAxis a { x with state := .extending } { pump := .running, axis := some a, valve := some (a, .outward), flow := 1000 }
    with budget := { res := { stern := some 400 } } }

theorem test_axes_stop_and_clear :
    ((drives .hatch {}).Calm ∧ (drives .hatch {}).Takes ∧ (drives .hatch {}).stern.seq.running = false) ∧
    answers (.axisStop (req 1) 1) (drives .hatch { holder := .host }) (fun t => (t.axis .hatch).state == .halted &&
      (t.axis .hatch).holder == .none && t.stern.pack == { pump := .runOn, axis := some .hatch, runOn := 200 } &&
      t.budget.res.stern == some 400) = true ∧
    answers (.axisStop (req 1) 0) (active .platOutEnd (drives .platform {})) (fun t =>
      (t.axis .platform).state == .extended) = true ∧
    answers (.axisStop (req 1) 0) (active .platLatchFree (withAxis .platform { state := .unlatching })) (fun t =>
      (t.axis .platform).state == .latching) = true ∧
    answers (.axisStop (req 1) 1) (withAxis .hatch { state := .latching, holder := .host }) (fun t =>
      (t.axis .hatch).state == .latching && (t.axis .hatch).holder == .none) = true ∧
    answers (.axisStop (req 1) 3) base (replied .outOfRange) = true ∧
    answers (.axisClearFault (req 1) 0) base (replied .notFaulted) = true ∧
    answers (.axisClearFault (req 1) 1) ((withAxis .hatch { state := .fault }).setAi 1 {}) (replied .faulted) = true ∧
    answers (.axisClearFault (req 1) 0) (withAxis .platform { state := .fault, cooldown := some 9 }) (fun t =>
      (t.axis .platform).state == .halted && (t.axis .platform).cooldown == some 9 && replied .ok t) = true ∧
    answers (.axisClearFault (req 1) 0) (active .platStowEnd (withAxis .platform { state := .fault })) (fun t =>
      (t.axis .platform).state == .stowed) = true ∧
    answers (.axisClearFault (req 1) 2) base (replied .outOfRange) = true := by decide +kernel

theorem test_moves_time_out :
    (let s := drives .platform { runMs := 45000, window := some (500, 2000) }
     s.Calm ∧ s.stern.seq.running = false ∧ s.runLimit .platform = 45000 ∧ s.cooldownTime .platform = 60) ∧
    answers (.unlatchTimeout .hatch) (withAxis .hatch { state := .unlatching, phaseMs := 3000 }) (fun t =>
      (t.axis .hatch).fault == some ⟨.latch, .unlatching, some 500, 0, 0⟩ && (t.axis .hatch).state == .fault) = true ∧
    answers (.latchTimeout .hatch) (active .hatchLatchFree (withAxis .hatch { state := .latching, phaseMs := 3000 }))
      (fun t => (t.axis .hatch).fault.map (·.cause) == some .latch) = true ∧
    answers (.runTimeout .platform) (drives .platform { runMs := 45000 }) (fun t => t.stern.pack == {} &&
      (t.axis .platform).fault == some ⟨.runTimeout, .extending, some 500, 45000, 0⟩ &&
      (t.axis .platform).cooldown == some 60000 && t.budget.res.stern == none) = true ∧
    answers (.noProgress .platform) (drives .platform { window := some (500, 2000) }) (fun t =>
      (t.axis .platform).fault.map (·.cause) == some .noProgress && t.stern.pack == {}) = true := by decide +kernel

theorem test_the_drive_goes_on :
    (let s := withAxis .hatch { state := .unlatching }
     s.Calm ∧ s.Unwatched ∧ s.stern.seq.running = false ∧ s.roleInput .hatchLatchFree = some 5 ∧
       s.roleInput .hatchOpenEnd = some 4 ∧ s.roleInput .hatchClosedEnd = some 3 ∧ (s.diCfg 5).pulse = false ∧
       (s.diRt 5).filtered = false ∧ (s.diCfg 5).tStable = 20) ∧
    answers .pumpLeadEnd (withAxis .platform { state := .retracting, target := 420 }
      { pump := .lead, axis := some .platform, onMs := 500, lead := 500 }) (fun t =>
      t.stern.pack == ⟨.running, some .platform, 500, 500, 0, some (.platform, .inward), 300⟩) = true ∧
    answers .pumpLeadEnd (withAxis .platform { state := .retracting, target := 419 }
      { pump := .lead, axis := some .platform, onMs := 500, lead := 500 }) (fun t => t.stern.pack.flow == 1000) = true ∧
    answers .runOnEnd { withAxis .platform {} { pump := .runOn, axis := some .platform } with
      budget := { res := { stern := some 400 } } } (fun t => t.stern.pack == {} && t.budget.res.stern == none) = true ∧
    answers (.cooldownEnd .hatch) (withAxis .hatch { cooldown := some 0 }) (fun t => noted .cooldownEnd t &&
      (t.axis .hatch).cooldown == none) = true ∧
    answers (.levelFilterChange 5 true 20) (withAxis .hatch { state := .unlatching, holder := .host }) (fun t =>
      (t.axis .hatch).state == .extending && t.stern.pack.pump == .lead && (t.axis .hatch).holder == .host) = true ∧
    answers (.levelFilterChange 4 true 20) (drives .hatch {}) (fun t => (t.axis .hatch).state == .extended &&
      t.stern.pack == { pump := .runOn, axis := some .hatch, runOn := 200 }) = true ∧
    answers (.levelFilterChange 3 true 20) (withAxis .hatch { state := .retracting }) (fun t =>
      (t.axis .hatch).state == .stowed) = true ∧
    answers (.levelFilterChange 3 true 20) (active .hatchLatchFree (withAxis .hatch { state := .retracting })) (fun t =>
      (t.axis .hatch).state == .latching) = true := by decide +kernel

/-- The hatch EXTENDED over a clear platform. -/
def opened : State :=
  { base.setAi 0 (shows 600) with stern := { platform := { state := .extended }, hatch := { state := .extended } } }

theorem test_sequences :
    (opened.Takes ∧ opened.Calm ∧ opened.Unwatched ∧ opened.stern.seq.running = false ∧
      opened.platformClear = true ∧ failingInterlock .hatch 0 opened = none ∧
      opened.roleActive .hatchClosedEnd = false ∧ closed.cfg.axes.stowAfterClose = false ∧
      failingInterlock .hatch 0 (active .tenderCradle opened) = some .tenderInPath) ∧
    answers (.sequenceStart (req 1) 2) opened (replied .outOfRange) = true ∧
    answers (.sequenceStart (req 1) 0) (opened.setSeq { state := .step2 }) (replied .busy) = true ∧
    answers (.sequenceStart (req 1) 0) opened (fun t => t.stern.seq == { state := .done, kind := some .garageOpen } &&
      replied .ok t) = true ∧
    answers (.sequenceStart (req 1) 1) closed (fun t => t.stern.seq.state == .done && noted .sequenceEnd t) = true ∧
    answers (.sequenceStart (req 1) 1) opened (fun t => t.stern.seq.state == .step1 &&
      (t.axis .hatch).state == .retracting && (t.axis .hatch).holder == .sequence && t.stern.pack.pump == .lead) = true ∧
    answers (.sequenceStart (req 1) 1) (active .tenderCradle opened) (fun t => t.stern.seq.state == .aborted &&
      t.stern.seq.ended == some (1, .refused .interlock) && replied .interlock t) = true := by decide +kernel

/-- GARAGE_OPEN in a step, its axis driving outward for the sequence. -/
def opening (st : SeqState) (a : AxisId) (hatch : AxState) : State :=
  let s := ((base.setAi 0 (shows 600)).setAxis .hatch { state := hatch }).setAxis a
    { state := .extending, holder := .sequence, target := 1000, runMs := 45000 }
  { (s.setPack { pump := .running, axis := some a, valve := some (a, .outward) }).setSeq
      { state := st, kind := some .garageOpen, axis := some a, holder := .host } with
    budget := { res := { stern := some 400 } } }

theorem test_sequences_go_on :
    (let s := opening .step1 .platform .stowed
     s.Calm ∧ s.Unwatched ∧ s.roleInput .platOutEnd = some 1 ∧ s.roleInput .hatchOpenEnd = some 4 ∧
       s.roleHeld .hatchLatchFree = true ∧ s.cfg.limits.hatchClearance ≤ 600 ∧ s.cfg.axes.hatch.amount ≤ 400 ∧
       s.runLimit .hatch ≤ 45000) ∧
    answers (.levelFilterChange 1 true 20) (opening .step1 .platform .stowed) (fun t =>
      t.stern.seq == { state := .step2, kind := some .garageOpen, axis := some .hatch, holder := .host } &&
      (t.axis .platform).state == .extended && (t.axis .hatch).state == .unlatching &&
      (t.axis .hatch).target == 1000 && (t.axis .hatch).latchHold && t.stern.pack == {} &&
      t.budget.res.stern == some t.cfg.axes.hatch.amount) = true ∧
    answers (.levelFilterChange 4 true 20) (opening .step2 .hatch .stowed) (fun t =>
      t.stern.seq == { state := .done, kind := some .garageOpen, holder := .host } &&
      (t.axis .hatch).state == .extended && (t.link.queue.getLast?.map (·.values)) == some [0, 0, 255, 65535]) = true ∧
    ([0, 1, 2] : List Nat).all (fun n => answers (.axisStop (req 1) n) (opening .step2 .hatch .stowed) (fun t =>
      t.stern.seq.state == .aborted && t.stern.seq.ended == some (2, .stopped) && (t.axis .hatch).state == .halted &&
      t.stern.pack.pump == .runOn && replied .ok t)) = true ∧
    answers (.runTimeout .hatch) (opening .step2 .hatch .stowed) (fun t => t.stern.seq.state == .aborted &&
      t.stern.seq.ended == some (2, .faulted .runTimeout) && (t.axis .hatch).state == .fault) = true := by decide +kernel

/-- A binding of the internal event of one axis, or of any subject with mask 0. -/
def onEvent (c : EvCode) (a : Nat) (b : Binding) : Binding :=
  { b with enabled := true, event := true, kind := codeIn evCodes c, match1 := 256 * 255 + a, match2 := 255 }

/-- The bindings of the table, in order; automatic actions allowed, and the platform stowed after a closing. -/
def bindings (l : List Binding) (s : State) : State :=
  cfgd (fun c => { c with bindings := tab 64 fun i => l.getD i {}, panels := { c.panels with autoFromPanels := true }
                          axes := { c.axes with stowAfterClose := true } }) s

/-- The event that input 13 becomes active. -/
def anEvent : Event := .internal .inputActive 13 none

/-- SEQUENCE_START by a binding: GARAGE_OPEN 0, GARAGE_CLOSE 1. -/
def startsSeq (k : Nat) : Binding := { action := .sequenceStart, p1 := k }

/-- What becomes of an axis is told to the sequence whose step it was, and not to one that its own event starts. -/
theorem test_a_new_sequence_hears_nothing_old :
    (let u := drives .platform { holder := .host, target := 1000 }
     let s := { bindings [onEvent .axisExtended 0 (startsSeq 0), onEvent .axisHalted 0 (startsSeq 0)] u with
       stern := { u.stern with hatch := { state := .stowed } } }
     let going (t : State) : Bool := t.stern.seq.state == .step1 && t.stern.seq.axis == some .platform &&
       (t.axis .platform).state == .extending && (t.axis .platform).holder == .sequence && t.stern.seqWork == [] &&
       t.bind.events == []
     answers (.levelFilterChange 1 true 20) s going = true ∧ answers (.axisStop (req 1) 0) s going = true ∧
       answers (.axisStop (req 1) 2) s going = true) ∧
    (let s := bindings [onEvent .sequenceEnd 0 (startsSeq 1)] (opening .step2 .hatch .stowed)
     answers (.axisStop (req 1) 1) s (fun t => t.stern.seq.state == .step1 && t.stern.seq.kind == some .garageClose &&
       (t.axis .hatch).state == .retracting && (t.axis .hatch).holder == .sequence && t.bind.counts[0] == 1) = true) := by
  decide +kernel

/-- A step that ends inside an action waits until the binding on the axis's event has acted. -/
theorem test_a_binding_acts_before_the_next_step :
    (let u := active .hatchClosedEnd ((base.setAi 0 (shows 700)).setAxis .platform { state := .extended })
     let s (l : List Binding) := offerNow anEvent (bindings (onEvent .inputActive 13 (startsSeq 1) :: l) u)
     let t := s []
     let v := s [onEvent .axisStowed 1 { action := .axisStop, p1 := 2 }]
     let w := s [onEvent .axisStart 0 { action := .notify }, onEvent .axisStowed 1 { action := .notify, p1 := 9 }]
     (t.stern.seq.state == .step2 && (t.axis .hatch).state == .stowed && (t.axis .platform).state == .retracting &&
       (t.axis .platform).holder == .sequence && t.stern.seqWork == [] && t.bind.events == []) = true ∧
     (v.stern.seq.ended == some (1, .stopped) && (v.axis .platform).state == .extended && v.stern.seqWork == []) = true ∧
     (w.link.queue.map (·.note)).filter (fun n => n == .notified || n == .axStarted) =
       [.axStarted, .notified, .axStarted, .notified]) := by
  decide +kernel

/-! ### The windlass -/

theorem test_windlass_runs_begin :
    (let s := withWl { count := 20, creep := some (1, 5), jogs := 3 }
     s.Takes ∧ s.Calm ∧ s.Unwatched ∧ s.wl.state = .idle ∧ s.wl.conflict = false ∧ s.wl.holds = [] ∧
       s.motorCurrent.isSome = true ∧ s.budget.res.windlass = none ∧ s.budget.supply = .normal ∧
       s.budget.last.c0 + s.budget.res.total + 900 + 100 ≤ s.cfg.supply.limit s.vessel.active ∧
       s.roleHeld .anchorHome = true ∧ s.roleActive .anchorHome = false ∧ s.cfg.windlass.maxRod = 400 ∧
       s.cfg.windlass.jogZone = 20) ∧
    answers (.windlassCommandLower (req 3) 0 9) (withWl { count := 20, creep := some (1, 5), jogs := 3 }) (fun t =>
      t.wl == { state := .lowering, holder := .host, mode := some .hold, count := 20, down := true, brakeFree := true } &&
      t.budget.res.windlass == some 900 && t.dev.cellWrite.isSome && noted .wlStarted t) = true ∧
    answers (.windlassCommandHoist (req 3) 1 0) (withWl { count := 20 }) (fun t => replied .ok t && t.wl ==
      { state := .hoisting, holder := .host, mode := some .hold, count := 20, up := true, brakeFree := true }) = true ∧
    answers (.windlassCommandLowerTo (req 3) 2 9999) (withWl { count := 399 }) (fun t => t.wl.target == some 400 &&
      t.wl.state == .lowering && t.wl.mode == some .lowerTo) = true ∧
    answers (.windlassCommandLowerTo (req 3) 2 1) base (fun t => t.wl.target == some 1) = true ∧
    answers (.windlassCommandHoistHome (req 3) 3 0) (withWl { count := 21 }) (fun t => t.wl.state == .hoisting &&
      t.wl.mode == some .hoistHome && !t.wl.jogOn) = true ∧
    answers (.windlassCommandHoistHome (req 3) 3 0) (withWl { count := 20, phaseMs := 9 }) (fun t =>
      t.wl == { state := .jogging, holder := .host, mode := some .hoistHome, count := 20, up := true,
                brakeFree := true, jogOn := true }) = true ∧
    answers (.windlassCommandHoistHome (req 3) 3 0) base (fun t => t.wl.jogs == 1) = true := by decide +kernel

/-- The host's own run in a state. -/
def hostRun (st : WlState) (m : WlMode) (count : Nat) : Windlass :=
  { state := st, holder := .host, mode := some m, count := count, up := st != .lowering, down := st == .lowering,
    brakeFree := true }

theorem test_a_host_run_is_replaced :
    (withWl (hostRun .lowering .hold 9)).Calm ∧
    answers (.windlassCommandLowerTo (req 3) 2 9999) (withWl (hostRun .lowering .hold 9)) (fun t => replied .ok t &&
      t.wl == { hostRun .lowering .lowerTo 9 with target := some 400 }) = true ∧
    answers (.windlassCommandLowerTo (req 3) 2 9) (withWl (hostRun .lowering .hold 9)) (stoppedFor .target) = true ∧
    answers (.windlassCommandLower (req 3) 0 0) (withWl { hostRun .lowering .lowerTo 9 with target := some 10 }) (fun t =>
      t.wl == hostRun .lowering .hold 9) = true ∧
    answers (.windlassCommandHoist (req 3) 1 0) (withWl (hostRun .hoisting .hoistHome 30)) (fun t =>
      t.wl == hostRun .hoisting .hold 30) = true ∧
    answers (.windlassCommandHoistHome (req 3) 3 0) (withWl (hostRun .hoisting .hold 21)) (fun t =>
      t.wl == hostRun .hoisting .hoistHome 21) = true ∧
    answers (.windlassCommandHoistHome (req 3) 3 0) (withWl { hostRun .hoisting .hoistHome 0 with jogs := 8 }) (fun t =>
      t.wl == { hostRun .jogging .hoistHome 0 with jogs := 9, jogOn := true }) = true ∧
    answers (.windlassCommandHoist (req 3) 1 0) (withWl { hostRun .jogging .hoistHome 5 with up := false, phaseMs := 7 })
      (fun t => t.wl == hostRun .hoisting .hold 5) = true ∧
    answers (.windlassCommandHoistHome (req 3) 3 0) (withWl (hostRun .jogging .hoistHome 5)) (fun t =>
      t.wl == hostRun .jogging .hoistHome 5) = true := by decide +kernel

theorem test_windlass_starts_are_checked :
    ((withWl { holds := [⟨.footUp, .up⟩] }).opposingHold .outward = some ⟨.footUp, .up⟩ ∧
      (base.lacksInput .hoistHome = false) ∧ base.runIsNone (.lowerTo 0) = true ∧ base.runIsNone .hoist = false ∧
      sameKind .host .host = true ∧ WlState.dir .lowering = .outward) ∧
    answers (.windlassCommandLower (req 3) 0 0) (withWl { state := .fault }) (replied .faulted) = true ∧
    answers (.windlassCommandHoist (req 3) 1 0) (withWl { state := .lockout }) (replied .lockout) = true ∧
    answers (.windlassCommandHoist (req 3) 1 0) (withWl { state := .braking }) (replied .busy) = true ∧
    answers (.windlassCommandLower (req 3) 0 0) (withWl { state := .lowering, holder := .foot }) (replied .busy) = true ∧
    answers (.windlassCommandHoist (req 3) 1 0) (withWl { state := .lowering, holder := .host }) (replied .busy) = true ∧
    answers (.windlassCommandHoist (req 3) 1 0) (withWl { conflict := true }) (replied .conflict) = true ∧
    answers (.windlassCommandLower (req 3) 0 0) (withWl { holds := [⟨.footUp, .up⟩] }) (fun t => t.wl.conflict &&
      replied .conflict t && noted .wlConflict t) = true ∧
    answers (.windlassCommandLower (req 3) 0 0) (base.setAi 3 {}) (replied .notReady) = true ∧
    answers (.windlassCommandHoistHome (req 3) 3 0) { base with cfg := {} } (replied .notReady) = true ∧
    answers (.windlassCommandHoist (req 3) 1 0) (active .anchorHome base) (fun t => replied .ok t &&
      t.wl.state == .idle) = true ∧
    answers (.windlassCommandLowerTo (req 3) 2 5) (withWl { count := 5 }) (fun t => replied .ok t &&
      t.wl.state == .idle) = true ∧
    (let t : Term := { enabled := true, subject := .windlass, cond := .anchored }
     let s := { base with cfg := { wired with limits := { terms := (Vector.replicate 16 {}).set 15 t } } }
     windlassPermit .outward s = some (.notPermitted, 15) ∧
       answers (.windlassCommandLower (req 3) 0 0) s (replied .notPermitted) = true) ∧
    answers (.windlassCommandLower (req 3) 0 0) { base with budget := { supply := .critical } } (replied .supplyLow) =
      true ∧
    ([.windlassCommandLower (req 3) 5 0, .windlassCommandHoist (req 3) 0 0, .windlassCommandLowerTo (req 3) 2 0,
      .windlassCommandLowerTo (req 3) 2 10000, .windlassCommandLowerTo (req 3) 3 1,
      .windlassCommandHoistHome (req 3) 2 0, .windlassCommandStop (req 3) 3 0] : List Instr).all
      (fun i => answers i base (replied .outOfRange)) = true := by decide +kernel

theorem test_windlass_stop_and_count :
    (withWl { state := .freeFall }).Calm ∧
    answers (.windlassCommandStop (req 3) 4 0)
      { withWl { state := .lowering, holder := .host, down := true, brakeFree := true } with
        budget := { res := { windlass := some 900 } } } (fun t => t.budget.res.windlass == none && noted .wlStopped t &&
        t.wl == { state := .braking, brakingEnd := some .idle, brakeFree := true }) = true ∧
    answers (.windlassCommandStop (req 3) 4 0) (withWl { state := .braking }) (replied .ok) = true ∧
    answers (.windlassSetCount (req 2) 9999) base (fun t => t.wl == { count := 9999, status := .restored } &&
      t.vessel.anchored && t.dev.cellWrite == some ⟨true, ⟨9999, 0⟩, none⟩) = true ∧
    answers (.windlassSetCount (req 2) 0)
      (active .anchorHome { base with dev := { cellWrite := some ⟨true, ⟨5, 0⟩, none⟩ } }) (fun t =>
        t.dev.cellWrite == some ⟨true, ⟨5, 0⟩, some 0⟩ && !t.vessel.anchored) = true ∧
    answers (.windlassSetCount (req 2) 10000) base (replied .outOfRange) = true ∧
    answers (.windlassSetCount (req 2) 1) (active .anchorHome base) (replied .conflict) = true ∧
    answers (.windlassSetCount (req 2) 1) (withWl { state := .braking }) (replied .busy) = true ∧
    answers (.windlassClearFault (req 0)) (withWl { state := .fault, count := 5 }) (fun t => t.wl.state == .idle &&
      noted .wlFaultCleared t) = true ∧
    answers (.windlassClearFault (req 0)) base (replied .notFaulted) = true := by decide +kernel

theorem test_windlass_clocks :
    ((withWl { state := .braking, brakingEnd := some .fault, phaseMs := 500 }).Calm ∧ base.Unwatched ∧
      base.cfg.limits.tMax = 120000) ∧
    answers .brakingEnd (withWl { state := .braking, brakingEnd := some .fault, phaseMs := 500, brakeFree := true })
      (fun t => t.wl == { state := .fault }) = true ∧
    answers .brakingEnd (withWl { state := .braking, brakingEnd := some .idle, phaseMs := 500, count := 60 }) (fun t =>
      t.wl.state == .idle && t.vessel.anchored) = true ∧
    answers .brakeFreeDelayEnd (withWl { state := .braking, phaseMs := 100, brakeFree := true }) (fun t =>
      !t.wl.brakeFree) = true ∧
    answers .jogOnEnd (withWl { state := .jogging, jogOn := true, phaseMs := 800, up := true }) (fun t => !t.wl.up &&
      !t.wl.jogOn && t.wl.phaseMs == 0) = true ∧
    answers .jogOffEnd (withWl { state := .jogging, phaseMs := 1200, jogs := 8 }) (fun t => t.wl.jogs == 9 && t.wl.up &&
      t.wl.jogOn) = true ∧
    answers .jogOffEnd (withWl { state := .jogging, phaseMs := 1200, jogs := 9, count := 1 }) (fun t =>
      t.wl.jogs == 9 && t.wl.up) = true ∧
    answers .jogOffEnd (withWl { state := .jogging, phaseMs := 1200, jogs := 9, lastCurrent := some 0 }) (fun t => t.wl.state == .braking &&
      t.wl.faultRec == some ⟨.homeMissing, .jogging, 0, some 0, 0⟩ && t.wl.jogs == 9) = true ∧
    answers .disagreementQuiet (withWl { state := .lowering, disagree := 7, quietMs := 2000 }) (fun t =>
      t.wl.disagree == 0) = true ∧
    answers .creepEnd (withWl { creep := some (-3, 2000) }) (fun t => t.wl.creep == none && noted .creepEnd t &&
      t.dev.cellWrite.isSome) = true ∧
    answers .stall (withWl { state := .hoisting, up := true, stall := some (1500, 1500), lastCurrent := some 300 }) (fun
      t => t.wl.faultRec == some ⟨.stall, .hoisting, 0, some 300, 0⟩ && t.wl.brakingEnd == some .fault) = true ∧
    answers .thermalLockout (withWl { state := .hoisting, heat := 120000 }) (fun t => t.wl.brakingEnd == some .lockout &&
      t.wl.state == .braking) = true ∧
    answers .lockoutEnd (withWl { state := .lockout, heat := 60000 }) (fun t => t.wl.state == .idle &&
      noted .lockoutEnd t) = true := by decide +kernel

theorem test_count_cell :
    answers .countCellWriteDone { base with dev := { cellWrite := some ⟨false, ⟨5, 65535⟩, none⟩ } } (fun t =>
      t.nv.cellB == some ⟨5, 65535⟩ && t.dev.cellWrite == none) = true ∧
    answers .countCellWriteDone { base with dev := { cellWrite := some ⟨false, ⟨5, 65535⟩, some 6⟩ } } (fun t =>
      t.dev.cellWrite == some ⟨true, ⟨6, 0⟩, none⟩ && t.nv.cellB == some ⟨5, 65535⟩) = true ∧
    answers .countCellWriteDone (writeCell { withWl { count := 7 } with nv := storedNv }) (fun t =>
      cellCount t.nv == some 7) = true := by decide +kernel

/-- A slot whose count lies above 9999 is not valid: the other slot gives the count, or none does. -/
theorem test_a_slot_out_of_range_is_not_valid :
    (let n : Nv := { cellA := some ⟨10000, 7⟩, cellB := some ⟨9999, 6⟩ }
     cellCount n = some 9999 ∧ writeSlot n = true ∧ writeSeq n = 7) ∧
    (let n : Nv := { cellA := some ⟨9999, 65535⟩, cellB := some ⟨10000, 0⟩ }
     cellCount n = some 9999 ∧ writeSlot n = false ∧ writeSeq n = 0) ∧
    (let n : Nv := { cellA := some ⟨10000, 7⟩ }
     cellCount n = none ∧ writeSlot n = true ∧ writeSeq n = 0 ∧
       answers .startUpInputsSettled { starting with nv := { storedNv with cellA := n.cellA, cellB := none } } (fun t =>
         t.wl.count == 0 && t.wl.status == .drifted) = true) := by decide +kernel

/-! ### The panel bus -/

/-- A call to panel 31, with what its slot has brought. -/
def asked (k : CallKind) (a : SlotAnswer := .awaited) : Option Call := some ⟨31, k, [], a⟩
/-- A panel's entry, the bus with a call to panel 31 whose slot is over. -/
def entry (e : Panel) (call : Option Call := none) : State :=
  { base with panel := { panels := (Vector.replicate 32 {}).set 31 e, call := call
                         slotMs := if call.isSome then some 5 else none } }
/-- An UP panel of version 2 with 16 keys that reports holds. -/
def upPanel : Panel := { link := .up, caps := some ⟨7, 16, .mono, true⟩, version := some 2 }

theorem test_slots :
    ((entry upPanel).nextVisit = some 31 ∧ base.nextVisit = none ∧ base.nextAbsent = some 0) ∧
    answers .slotStart (inState .starting) (· == inState .starting) = true ∧
    answers .slotStart { base with panel := { slotMs := some 4 } } (·.panel.call.isNone) = true ∧
    answers .slotStart (entry upPanel (asked .poll)) (· == entry upPanel (asked .poll)) = true ∧
    answers .slotStart { base with panel := { base.panel with fast := [31], slotMs := some 5 } } (fun t =>
      t.panel.call == some ⟨31, .poll, panelFrame 32 0x03 [], .awaited⟩ && t.panel.lastFast &&
      t.panel.slotMs == some 0) = true ∧
    answers .slotStart (entry upPanel) (fun t => t.panel.walked == 32 &&
      t.panel.call.map (·.kind) == some .poll && t.panel.call.map (·.panel) == some 31) = true ∧
    answers .slotStart { base with panel := { base.panel with discovery := 31, rotation := 7 } } (fun t =>
      t.panel.call == some ⟨31, .discover, panelFrame 32 0x01 [], .awaited⟩ && t.panel.discovery == 0 &&
      t.panel.rotation == 7 && t.panel.discovering) = true ∧
    answers .slotStart { base with panel := { base.panel with rotation := 7, walked := 32, discovering := true
                                                              slotMs := some 5 } } (fun t =>
      t.panel.rotation == 0 && t.panel.walked == 0 && t.panel.call.map (·.kind) == some .discover) = true := by decide +kernel

/-- A frame of panel 31. -/
def from31 (kind : Byte) (payload : List Byte) : List Byte := panelFrame 32 kind payload
/-- The answer of panel 31 to a call, judged as its slot ends. -/
def judged (kind : AnswerKind) (code : Byte) (payload : List Byte) (k : CallKind) (e : Panel) (p : State → Bool) : Bool :=
  answers (kind.row (from31 code payload)) (entry e (asked k (.came kind (from31 code payload)))) p

theorem test_answers :
    (highestVersion (7 &&& 7) = some 3 ∧ highestVersion (1 &&& 7) = some 1 ∧ highestVersion (4 &&& 3) = none ∧
      addressOf 31 = 32) ∧
    judged .capability 0x10 [7, 16, 2, 1] .discover {} (fun t => t.entry 31 ==
      { link := .joining, caps := some ⟨7, 16, .rgb, true⟩, version := some 3, assignPending := true } &&
      noted .joined t && t.panel.call == none) = true ∧
    (let f := from31 0x10 [1, 1, 0, 0]
     let barred (e : Panel) (k : CallKind) :=
       cfgd (fun c => { c with panels := { versionSet := 6 } }) (entry e (asked k (.came .capability f)))
     answers (.capability f) (barred {} .discover) (fun t =>
        (t.entry 31).link == .incompatible && noted .incompatible t) = true ∧
       answers (.capability f) (barred upPanel .poll) (fun t => (t.entry 31).link == .incompatible &&
         noted .rejoined t && (t.link.queue.map (·.values)) == [[1, 6], [2, 255]]) = true) ∧
    judged .short 0x11 [] .discover {} (fun t => t.entry 31 ==
      { link := .joining, caps := some ⟨1, 8, .mono, false⟩, legacy := true, version := some 1 }) = true ∧
    judged .short 0x11 [] .assign { upPanel with link := .joining } (noted .rejoined) = true ∧
    judged .ack 0x12 [2] .assign { upPanel with link := .joining, assignPending := true, miss := 2 } (fun t =>
      !(t.entry 31).assignPending && (t.entry 31).miss == 0) = true ∧
    judged .ack 0x12 [3] .assign { upPanel with link := .joining, miss := 2, good := 2 } (fun t =>
      (t.entry 31).miss == 3 && (t.entry 31).good == 0) = true ∧
    judged .capability 0x10 [6, 16, 2, 1] .poll upPanel (fun t => (t.entry 31) ==
      { upPanel with link := .joining, caps := some ⟨6, 16, .rgb, true⟩, version := some 3, assignPending := true } &&
      noted .rejoined t) = true := by decide +kernel

/-- Panel 31 in a link state with a miss run and a good run. -/
def linked (l : Link) (miss : Nat) (good : Nat := 0) : Panel := { upPanel with link := l, miss := miss, good := good }
/-- A call to panel 31 that its slot has brought no answer to. -/
def missed (e : Panel) (p : State → Bool) (a : SlotAnswer := .awaited) : Bool :=
  answers .missedAnswer (entry e (asked .poll a)) p

theorem test_link_states :
    answers .missedAnswer (entry {} (asked .discover)) (fun t => t.entry 31 == {} && t.panel.call == none) = true ∧
    missed upPanel (fun t => t.entry 31 == linked .failing 1 && noted .linkFailing t) = true ∧
    missed (linked .failing 2) (fun t => t.entry 31 == linked .failing 3) .missed = true ∧
    missed (linked .failing 3) (fun t => t.entry 31 == linked .down 4 && noted .linkDown t) = true ∧
    missed (linked .joining 2 2) (fun t => t.entry 31 == linked .joining 3) = true ∧
    missed (linked .joining 3) (fun t => t.entry 31 == {} && noted .lost t) = true ∧
    missed (linked .down 4) (fun t => t.entry 31 == linked .down 4 && t.link.queue.isEmpty) = true ∧
    (let s := entry { linked .failing 3 with holdings := [⟨15, .windlass, 9⟩] } (asked .poll)
     answers .missedAnswer { s with
       wl := { state := .hoisting, holder := .panel 32 15, up := true, holds := [⟨.panel 32 15, .up⟩] } } (fun t =>
       t.entry 31 == linked .down 4 && t.wl.state == .braking && t.wl.holds.isEmpty && noted .linkDown t &&
         (t.link.queue.getLast?.map (·.values)) == some [1])) = true ∧
    judged .keys 0x13 [] .poll (linked .joining 1 1) (fun t => t.entry 31 == linked .joining 0 2) = true ∧
    judged .keys 0x13 [] .poll (linked .joining 0 2) (fun t => t.entry 31 == upPanel && noted .linkUp t) = true ∧
    judged .keys 0x13 [] .poll (linked .failing 3) (fun t => t.entry 31 == upPanel && noted .linkUp t) = true ∧
    judged .keys 0x13 [] .poll (linked .down 4) (fun t => t.entry 31 == linked .joining 0 && noted .joined t) = true := by
  decide +kernel

/-- `entry` with a POLL whose slot is at a time. -/
def slotAt (ms : Nat) (a : SlotAnswer := .awaited) : State :=
  let s := entry upPanel (asked .poll a)
  { s with panel := { s.panel with slotMs := some ms } }

theorem test_answers_are_kept_until_their_slot_ends :
    (let f := from31 0x13 [0x0F]
     let late := slotAt 3
     f.length = 5 ∧ (readAnswer 31 f).isSome = true ∧ frameKind f = AnswerKind.keys.code ∧
     answers (.keys f) (slotAt 2) (· == slotAt 2 (.came .keys f)) = true ∧
     answers (.keys f) late (· == slotAt 3 .missed) = true ∧
     answers (.keys (f.take 4)) (slotAt 0) (· == slotAt 0 .missed) = true ∧
     answers (.keys f) (slotAt 2 .missed) (· == slotAt 2 .missed) = true ∧
     answers (.keys f) (slotAt 4 (.came .keys f)) (· == slotAt 4 (.came .keys f)) = true ∧
     answers .missedAnswer (slotAt 4 (.came .keys f)) (· == slotAt 4 (.came .keys f)) = true ∧
     answers .missedAnswer (slotAt 1) (· == slotAt 1 .missed) = true ∧
     answers (.keys f) (slotAt 5) (· == slotAt 5) = true ∧
     dueSlot (slotAt 5 (.came .keys f)) = [.keys f, .slotStart] ∧ dueSlot (slotAt 5 .missed) = [.missedAnswer, .slotStart] ∧
     dueSlot (slotAt 4 (.came .keys f)) = []) ∧
    (let early := from31 0x10 (List.replicate 9 0)
     frameKind early = 0x10 ∧ early.length = 13 ∧
       answers (.capability early) (slotAt 0) (· == slotAt 0) = true) := by decide +kernel

/-- The panel's key 15 holds the windlass, which runs for it. -/
def holding (deadman : Nat) : State :=
  { entry { upPanel with holdings := [⟨15, .windlass, deadman⟩] } with
    wl := { state := .lowering, holder := .panel 32 15, down := true, holds := [⟨.panel 32 15, .down⟩] } }

theorem test_panel_forget :
    ((entry {}).Takes ∧ (holding 9).Calm ∧ (holding 9).wl.state.running = true) ∧
    answers (.panelForget (req 1) 0) base (replied .outOfRange) = true ∧
    answers (.panelForget (req 1) 33) base (replied .outOfRange) = true ∧
    answers (.panelForget (req 1) 32) (entry {}) (fun t => replied .ok t && t.link.queue.isEmpty) = true ∧
    answers (.panelForget (req 1) 32) (entry upPanel) (fun t => t.entry 31 == {} && noted .forgotten t) = true ∧
    answers (.panelForget (req 1) 32) (holding 9) (fun t => t.entry 31 == {} && t.wl.state == .braking &&
      t.wl.holds.isEmpty && t.wl.brakingEnd == some .idle) = true := by decide +kernel

/-- A POLL of panel 31 whose slot, now over, has brought an answer. -/
def polled (kind : AnswerKind) (f : List Byte) (s : State) : State :=
  { s with panel := { s.panel with call := asked .poll (.came kind f), slotMs := some 5 } }

/-- A POLL answer of panel 31 with one event byte, KEY notices enabled. -/
def keyed (b : Byte) (s : State) (p : State → Bool) : Bool :=
  answers (.keys (from31 0x13 [b]))
    (polled .keys (from31 0x13 [b]) { s with link := { s.link with enabled := 0x3FF } }) p

theorem test_keys :
    (let s := entry upPanel (asked .poll)
     s.Calm ∧ keyNumber 32 15 = 511 ∧ (s.entry 31).version ≠ some 1) ∧
    judged .keys 0x13 [] .poll { upPanel with miss := 0, good := 2 } (fun t =>
      (t.entry 31).good == 0 && t.link.queue.isEmpty) = true ∧
    keyed 0x0F (entry upPanel) (fun t => t.bind.flashes == [(511, 150)] && noted .keyPress t) = true ∧
    keyed 0x1F (entry upPanel) (fun t => t.bind.flashes == [] && noted .keyRelease t) = true ∧
    keyed 0x0F (entry (linked .failing 3)) (fun t => t.bind.flashes == [(511, 150)] &&
      t.link.queue.map (·.note) == [.linkUp, .keyPress]) = true ∧
    keyed 0x0F (entry (linked .joining 0)) (fun t => t.link.queue.isEmpty && (t.entry 31).good == 1) = true ∧
    keyed 0x0F (entry (linked .down 4)) (fun t => t.link.queue.map (·.note) == [.joined]) = true ∧
    keyed 0x2F (holding 1) (fun t => (t.entry 31).holdings == [⟨15, .windlass, 150⟩] && noted .keyHold t) = true ∧
    keyed 0x3F (holding 1) (fun t => (t.entry 31).holdings == [⟨15, .windlass, 150⟩] && noted .keyHeld t) = true ∧
    keyed 0x0F (entry { upPanel with caps := some ⟨7, 15, .mono, true⟩ }) (noted .eventDiscarded) = true ∧
    keyed 0x2F (entry { upPanel with version := some 1 }) (noted .eventDiscarded) = true ∧
    answers (.deadman 31 15) (holding 1) (· == holding 1) = true ∧
    answers (.deadman 31 15) (holding 0) (fun t => (t.entry 31).holdings == [] && t.wl.state == .braking &&
      t.wl.holder == .none && noted .deadman t && t.wl.holds == []) = true ∧
    (let f (n : Nat) := { base with bind := { flashes := [(511, n)] } }
     findKey 511 (f 0).bind.flashes = some 0 ∧
       answers (.flashEnd 31 15) (f 0) (fun t => t.bind.flashes == []) = true ∧
       answers (.flashEnd 31 15) (f 1) (· == f 1) = true) := by decide +kernel

/-- The panel's key 15 holds the subject of `h`, in `s`. -/
def held (h : HoldSubject) (s : State) : State :=
  { s with panel := { s.panel with panels := s.panel.panels.set 31 { upPanel with holdings := [⟨15, h, 0⟩] } } }

theorem test_a_key_that_comes_up_lets_go :
    keyed 0x1F (holding 9) (fun t => (t.entry 31).holdings == [] && t.wl.state == .braking && t.wl.holds == [] &&
      noted .keyRelease t && t.bind.flashes == []) = true ∧
    keyed 0x0F (holding 9) (fun t => (t.entry 31).holdings == [] && t.wl.state == .braking && noted .keyPress t &&
      t.bind.flashes == [(511, 150)]) = true ∧
    keyed 0x1F (held .hatch (drives .hatch { holder := .panel 32 15 })) (fun t => (t.axis .hatch).state == .halted &&
      (t.axis .hatch).holder == .none && (t.entry 31).holdings == [] && t.stern.pack.pump == .runOn) = true ∧
    (let f := from31 0x10 [6, 16, 2, 1]
     answers (.capability f) (polled .capability f (holding 9)) (fun t => t.wl.state == .braking && noted .rejoined t &&
       t.entry 31 == { upPanel with link := .joining, caps := some ⟨6, 16, .rgb, true⟩, version := some 3
                                    assignPending := true }) = true) := by decide +kernel

theorem test_deadman_stops_what_the_key_holds :
    (held .hatch (drives .hatch { holder := .panel 32 15 })).Calm ∧
    answers (.deadman 31 15) (held .hatch (drives .hatch { holder := .panel 32 15 })) (fun t =>
      (t.axis .hatch).state == .halted && (t.axis .hatch).holder == .none && (t.entry 31).holdings == [] &&
      t.stern.pack.pump == .runOn) = true ∧
    (let s := opening .step2 .hatch .stowed
     answers (.deadman 31 15) (held .sequence (s.setSeq { s.stern.seq with holder := .panel 32 15 })) (fun t =>
       (t.axis .hatch).state == .halted && t.stern.seq.state == .aborted &&
       t.stern.seq.ended == some (2, .stopped) && (t.entry 31).holdings == []) = true) := by decide +kernel

/-! ### Bindings, indicators and the configuration -/

theorem test_tables :
    (base.Takes ∧ (bindingOf bindPart).map Binding.ok = some true ∧
      (bindingOf { bindPart with action := 5, p2 := 1001 }).map Binding.ok = some false ∧
      bindingOf { bindPart with action := 13 } = none) ∧
    answers (.bindingWrite (req 15) { bindPart with index := 63 })
      { base with bind := { counts := Vector.replicate 64 9 } } (fun t =>
        t.cfg.bindings[63].enabled && t.bind.counts[63] == 0 && t.bind.counts[62] == 9 && t.dev.changed == 8 && replied .ok t) = true ∧
    answers (.bindingWrite (req 15) bindPart) (committing base) (replied .busy) = true ∧
    ([{ bindPart with index := 64 }, { bindPart with action := 13 }, { bindPart with action := 5, p2 := 1001 },
      { bindPart with flags := 4 }, { bindPart with zero := 1 }] : List BindingPart).all (fun p =>
      answers (.bindingWrite (req 15) p) base (replied .outOfRange)) = true ∧
    answers (.indicatorSet (req 4) 32 15 3 4) base (fun t => t.bind.overrides == [(511, (.blinkFast, .blue))] &&
      (t.link.replies.map fun r => r.result.getD 15 0) == [0x63]) = true ∧
    answers (.indicatorSet (req 4) 1 16 1 0) base (fun t => t.bind.overrides.length == 16) = true ∧
    ([0, 255] : List Nat).all (fun c => answers (.indicatorSet (req 4) 32 15 5 c) { base with bind := { overrides := [(511, (.on, .red))] } } (fun t =>
      t.bind.overrides == [])) = true ∧
    answers (.indicatorSet (req 4) 32 16 6 255) { base with bind := { overrides := [(511, (.on, .red))] } } (fun t =>
      t.bind.overrides.length == 1) = true ∧
    ([.indicatorSet (req 4) 0 0 0 0, .indicatorSet (req 4) 33 0 0 0, .indicatorSet (req 4) 1 17 0 0,
      .indicatorSet (req 4) 1 0 4 0, .indicatorSet (req 4) 1 0 7 255, .indicatorSet (req 4) 1 0 0 5,
      .indicatorSet (req 4) 1 0 3 255, .indicatorSet (req 4) 1 0 5 254, .indicatorSet (req 4) 1 0 6 5] : List Instr).all
      (fun i => answers i base (replied .outOfRange)) = true := by decide +kernel

/-- `base` with two bindings that match `anEvent`, the lower one as given. -/
def bound (b : Binding) : State :=
  let on : Binding := { b with enabled := true, event := true, kind := 1, match1 := 13 + 256 * 255, match2 := 255 }
  { base with cfg := { wired with bindings := ((Vector.replicate 64 {}).set 62 on).set 63 { on with p1 := 9 } } }

/-- An AXIS_FAULT event starts the other axis, which AUTO_FROM_PANELS allows, as CRITICAL is entered. -/
theorem test_no_start_into_critical :
    (let b : Binding := { enabled := true, event := true, kind := codeIn evCodes .axisFault, match1 := 256 * 255 + 0
                          match2 := 255, action := .axisGo, p1 := 1, p2 := 1000 }
     let s0 := dwelling .brownout .critical 200
     let s := { cfgd (fun c => { c with bindings := c.bindings.set 0 b
                                        panels := { c.panels with autoFromPanels := true } })
                  (s0.setAi 0 (shows 600)) with
                wl := {}, stern := { s0.stern with pack := { pump := .running, axis := some .platform } } }
     s.matching (.internal .axisFault 0 none) = some 0 ∧
       answers .stateCritical s (fun t => t.bind.counts[0] == 1 && (t.axis .platform).state == .fault &&
         (t.axis .hatch).state == .halted && t.budget.res.stern == none && t.stern.pack == {} &&
         t.link.queue.any fun n => n.note == .refused &&
           n.values.head? == some (codeIn statuses .supplyLow : Int)) = true) := by decide +kernel

theorem test_the_lowest_binding_acts :
    ((bound {}).matching anEvent = some 62 ∧ base.matching anEvent = none ∧ (bound {}).bind.acting = none ∧
      (bound {}).bind.events = [] ∧ (bound {}).scene.idleWork = []) ∧
    (offerNow anEvent (inState .starting)).bind.startUp = [anEvent] ∧ offerNow anEvent base = base ∧
    (let t := offerNow anEvent (bound {})
     noted .notified t = true ∧ t.bind.counts[62] = 1 ∧ t.bind.counts[63] = 0 ∧ t.bind.acting = none) ∧
    (let t := offerNow anEvent (bound { action := .axisGo })
     noted .refused t = true ∧ t.link.queue.map (·.values) = [[9, 255, 257, 13]]) ∧
    (let t := offerNow anEvent (bound { action := .channelSet, p1 := 4, p2 := 1000, p3 := 60000 })
     t.chan[4] = { owner := .binding, fade := some ⟨0, 1000, 0, 60000, 0⟩ }) := by decide +kernel

/-- `s` with one binding on `anEvent`, its match count as it has acted once. -/
def acted (b : Binding) (s : State) : State × State :=
  let u := bindings [onEvent .inputActive 13 b] s
  (u, { u with bind := { u.bind with counts := u.bind.counts.set 0 1 } })

theorem test_channel_and_scene_bindings_act :
    (let on (s : State) (b : Binding) (p : State → State → Bool) :=
       let r := acted b s
       r.1.matching anEvent == some 0 && p r.2 (offerNow anEvent r.1)
     let fades (target : Nat) (c : Channel) (u t : State) := t == u.setChan 4 { c with
       owner := .binding, fade := some ⟨c.level, target, 0, 60000, 0⟩ }
     let c : Channel := { owner := .binding, level := 990 }
     let src := TrigSource.eventBinding 0
     on (withCh c) { action := .channelToggle, p1 := 4, p2 := 7, p3 := 60000 } (fades 0 c) &&
     on base { action := .channelToggle, p1 := 4, p2 := 7, p3 := 60000 } (fades 7 {}) &&
     on (withCh c) { action := .channelStep, p1 := 4, p2 := 20, p3 := 60000 } (fades 1000 c) &&
     on (withCh c) { action := .channelStep, p1 := 4, p2 := -1000, p3 := 60000 } (fades 0 c) &&
     on base { action := .channelStep, p1 := 23, p2 := 20 } (fun u t =>
       t == notice .refused 0 [codeIn statuses .inUse, 0, 257, 13] u) &&
     on (playing (aRun .dwell [4, 5] [])) { action := .sceneStart, p1 := 1, p2 := 3 } (fun u t =>
       t == notice .refused 0 [codeIn statuses .busy, 0, 257, 13] u) &&
     on (playing (aRun .dwell [4, 5] [])) { action := .sceneStart, p1 := 1, p2 := 3, busy := .queue } (fun u t =>
       t == u.setPlayer 1 { aRun .dwell [4, 5] [] with pendingTrig := some (3, src) }) &&
     on (cfgd (fun k => { k with scenes := k.scenes.set 3 (some { aScene with chans := [4], rows := [[9], [8]] }) }) base)
       { action := .sceneStart, p1 := 1, p2 := 3 } (fun u t => t == notice .playerStarted 1 [3, value2 src.pair, 1]
         ((u.setPlayer 1 { aRun .fading [4] [4] with source := src }).setChan 4
           { owner := .player 1, fade := some ⟨0, 9, 0, 500, 0⟩ })) &&
     on (playing (aRun .fading [4, 5] [4])) { action := .sceneStop, p1 := 1 } (fun u t =>
       t == u.setPlayer 1 (aRun .stopping [4, 5] [4])) &&
     on base { action := .sceneStop, p1 := 3, p2 := 1 } (fun u t => t == u) &&
     on (playing (aRun .fading [4, 5] [4])) { action := .sceneStop, p1 := 1, p2 := 1 } (fun u t =>
       t.player 1 == { state := .idle, outcome := .aborted } && t.bind == u.bind && t.chan[4] == {} &&
         noted .playerDone t)) = true := by decide +kernel

/-- A key event of panel 32, and a binding of it. -/
def pressed : Event := .key 32 2 .press
/-- `s` with a panel 32 that holds, and one binding on `pressed`. -/
def keyActs (b : Binding) (s : State) : State × State :=
  let u := bindings [{ b with enabled := true, match1 := 498, match2 := 511 }]
    { s with panel := { s.panel with panels := (Vector.replicate 32 {}).set 31 upPanel } }
  (u, { u with bind := { u.bind with counts := u.bind.counts.set 0 1 } })

theorem test_axis_bindings_act :
    (let on (s : State) (b : Binding) (p : State → State → Bool) :=
       let r := acted b s
       r.1.matching anEvent == some 0 && p r.2 (offerNow anEvent r.1)
     let key (s : State) (b : Binding) (p : State → State → Bool) :=
       let r := keyActs b s
       r.1.matching pressed == some 0 && holdCheck 31 r.1 == none && p r.2 (offerNow pressed r.1)
     let refused (c : Status) (d : Nat) (u t : State) := t == notice .refused 0 [codeIn statuses c, d, 257, 13] u
     let begun (h : AxHolder) (u t : State) := (t.axis .platform).state == .unlatching &&
       (t.axis .platform).target == 300 && (t.axis .platform).holder == h && (t.axis .platform).latchHold &&
       t.stern.pack == {} && t.budget.res.stern == some 400 && t.axis .hatch == u.axis .hatch && t.bind == u.bind
     let go : Binding := { action := .axisGo, p1 := 0, p2 := 1 }
     let hold : Binding := { action := .axisHold, p1 := 0, p2 := 1 }
     on (drives .hatch { holder := .host }) { action := .axisStop, p1 := 1 } (fun u t =>
       (t.axis .hatch).state == .halted && t.stern.pack == { pump := .runOn, axis := some .hatch, runOn := 200 } &&
       t.bind == u.bind) &&
     on (withAxis .hatch { holder := .host }) { action := .axisStop, p1 := 1 } (fun u t =>
       t == u.modAxis .hatch fun x => { x with holder := .none }) &&
     on stowed go (begun .bindingAuto) && key stowed hold (fun u t => begun (.panel 32 2) u t &&
       (t.entry 31).holdings == [⟨2, .platform, 150⟩] && t.panel.fast == [31]) &&
     on (withAxis .platform { state := .fault }) go (refused .faulted 0) &&
     on (withAxis .platform { state := .latching }) go (refused .busy 0) &&
     key (withAxis .platform { state := .latching, holder := .panel 1 2 }) hold (fun u t =>
       t == notice .holdIgnored 32 [2, 0] u) &&
     on closed { go with p2 := 500 } (fun u t => t == u) &&
     on base { go with p2 := 599 } (refused .interlock 3) &&
     (let r := keyActs hold { stowed with panel := { stowed.panel with fast := [0, 1, 2, 3] } }
      offerNow pressed r.1 == notice .refused 0 [codeIn statuses .busy, 0, 0, 498] r.2)) = true ∧
    stowed.cfg.limits.deadman = 150 := by decide +kernel

theorem test_sequence_and_windlass_bindings_act :
    (let on (s : State) (b : Binding) (p : State → State → Bool) :=
       let r := acted b s
       r.1.matching anEvent == some 0 && p r.2 (offerNow anEvent r.1)
     let key (s : State) (b : Binding) (p : State → State → Bool) :=
       let r := keyActs b s
       r.1.matching pressed == some 0 && holdCheck 31 r.1 == none && p r.2 (offerNow pressed r.1)
     let closes (h : SeqHolder) (u t : State) :=
       t.stern.seq == { state := .step1, kind := some .garageClose, axis := some .hatch, holder := h } &&
       (t.axis .hatch).state == .retracting && (t.axis .hatch).holder == .sequence && t.stern.pack.pump == .lead &&
       t.axis .platform == u.axis .platform && t.bind == u.bind
     let runs (w : Windlass) (u t : State) := t.wl == { w with brakeFree := true } &&
       t.budget.res.windlass == some 900 && t.bind == u.bind && !t.vessel.anchored
     on opened { action := .sequenceStart, p1 := 1 } (closes .bindingAuto) &&
     key opened { action := .sequenceStart, p1 := 1, p2 := 1 } (fun u t => closes (.panel 32 2) u t &&
       (t.entry 31).holdings == [⟨2, .sequence, 150⟩]) &&
     on (opened.setSeq { state := .step2 }) { action := .sequenceStart, p1 := 0 } (fun u t =>
       t == notice .refused 0 [codeIn statuses .busy, 0, 257, 13] u) &&
     key (opened.setSeq { state := .step2, holder := .panel 1 2 }) { action := .sequenceStart, p1 := 0, p2 := 1 } (fun u t =>
       t == notice .refused 0 [codeIn statuses .busy, 0, 0, 498] u) &&
     on { withWl { state := .lowering, down := true, count := 5 } with budget := { res := { windlass := some 900 } } }
       { action := .windlassStop } (fun u t => t.wl == { state := .braking, brakingEnd := some .idle, count := 5 } &&
         t.budget.res.windlass == none && t.bind == u.bind && t.bind.counts[0] == 1) &&
     on base { action := .windlassStop } (fun u t => t == u) &&
     on (withWl { count := 9 }) { action := .windlassAuto, p1 := 0, p2 := 9999 } (runs
       { state := .lowering, holder := .bindingAuto, mode := some .lowerTo, target := some 400, count := 9, down := true }) &&
     on (withWl { count := 21 }) { action := .windlassAuto, p1 := 1 } (runs
       { state := .hoisting, holder := .bindingAuto, mode := some .hoistHome, count := 21, up := true }) &&
     key { base with vessel := { base.vessel with anchored := true } } { action := .windlassHold, p1 := 1 } (fun u t => runs
       { state := .lowering, holder := .panel 32 2, mode := some .hold, down := true, holds := [⟨.panel 32 2, .down⟩] } u t &&
       (t.entry 31).holdings == [⟨2, .windlass, 150⟩]) &&
     key base { action := .windlassHold, p1 := 0 } (runs
       { state := .hoisting, holder := .panel 32 2, mode := some .hold, up := true, holds := [⟨.panel 32 2, .up⟩] })) =
       true := by decide +kernel

/-- The event lists, and the depth that cuts a chain. -/
theorem test_event_lists :
    (let q : Queued := ⟨anEvent, 0, 7⟩
     let list (b : BindBlock) := { base with bind := b }
     offerNow anEvent (list { acting := some (2, 5) }) = list { acting := some (2, 5), events := [⟨anEvent, 3, 5⟩] } ∧
       offerNow anEvent (list { acting := some (2, 5), events := List.replicate 16 q }) =
         list { acting := some (2, 5), events := List.replicate 16 q, dropped := 1 } ∧
       takeEvent { q with depth := 4 } base = notice .chainLimit 7 [1, 13] base ∧
       takeEvents 1 (list { events := [q], dropped := 3 }) = notice .eventsDropped 0 [3] base ∧
       takeStartUp 1 (list { startUp := [anEvent], droppedStartUp := 3 }) = notice .eventsDropped 1 [3] base ∧
       (offerNow anEvent { inState .starting with bind := { startUp := List.replicate 32 anEvent } }).bind.droppedStartUp =
         1) ∧
    (let e := Event.internal .playerDone 1 (some 4)
     let s := bindings [onEvent .playerDone 1 { action := .sceneStart, p1 := 1, p2 := 63 }] base
     let done := notice .playerDone 1 [255, 4, 0, value2 (TrigSource.eventBinding 0).pair]
     s.matching e = some 0 ∧ s.sceneAt 63 = none ∧ s.Between ∧
       (offerNow e s).bind = { s.bind with counts := s.bind.counts.set 0 4 } ∧
       (offerNow e s).link.queue = (notice .chainLimit 0 [0, 1] (done (done (done (done s))))).link.queue) := by
  decide +kernel

/-- `base` with the commission key turned. -/
def keyTurned : State := active .commissionKey base

theorem test_config_write :
    (base.Takes ∧ (itemAt 6 2).isSome = true ∧ itemAt 6 5 = none ∧
      base.protectedWrite 8 9 base.cfg = true ∧ base.protectedWrite 6 2 base.cfg = false ∧
      keyTurned.roleActive .commissionKey = true) ∧
    answers (.configWrite (req 3) 6 5 [0]) base (replied .outOfRange) = true ∧
    answers (.configWrite (req 2) 6 2 []) base (replied .badLength) = true ∧
    answers (.configWrite (req 3) 6 2 [1]) base (replied .badLength) = true ∧
    answers (.configWrite (req 4) 6 2 [0, 0]) base (replied .outOfRange) = true ∧
    answers (.configWrite (req 4) 8 1 (le16 2150)) keyTurned (replied .outOfRange) = true ∧
    answers (.configWrite (req 13) 0 14 [13, 0, 0, 20, 0, 0, 0, 20, 0, 100, 0]) base (replied .ok) = true ∧
    answers (.configWrite (req 13) 0 14 [6, 0, 0, 20, 0, 0, 0, 20, 0, 100, 0]) base (replied .conflict) = true ∧
    answers (.configWrite (req 4) 8 9 (le16 61)) base (replied .prot) = true ∧
    answers (.configWrite (req 4) 8 9 (le16 61)) keyTurned (fun t => replied .ok t && t.cfg.limits.cooldownPlat == 61 &&
      t.dev.changed == 256) = true ∧
    answers (.configWrite (req 4) 6 2 (le16 9999)) (committing base) (replied .busy) = true ∧
    answers (.configWrite (req 4) 6 2 (le16 400)) base (fun t => replied .ok t && t.dev.changed == 0) = true ∧
    answers (.configWrite (req 4) 6 2 (le16 9999)) base (fun t => replied .ok t && t.cfg.windlass.maxRod == 9999 &&
      t.dev.changed == 64) = true := by decide +kernel

/-- `base` with its configuration stored. -/
def stored : State :=
  { base with nv := { general := some wired.general, channels := some wired.channels, scenes := some wired.scenes
                      bindings := some wired.bindings, panels := some wired.panels, axes := some wired.axes
                      windlass := some wired.windlass, supply := some wired.supply, limits := some wired.limits
                      mark := true } }

/-- A channel record is written. -/
def writesChannel (n : Fin 24) (k : ChCfg) (s : State) (p : State → Bool) : Bool :=
  answers (.configWrite (req 15) 1 n k.bytes) s p

theorem test_channel_rewrites :
    (let s := { base.setChan 23 { owner := .beacon, level := 1000, granted := 1000 } with
       beacon := { active := true, blinking := true, halfOn := true } }
     writesChannel 23 { s.chCfg 23 with partner := 5 } s (fun t => t.chan[23].level == 1000 &&
       t.chan[23].granted == 1000 && replied .ok t)) = true ∧
    (let on : Channel := { level := 1000, granted := 1000, pwm := 1000, owner := .hostDirect }
     let k : ChCfg := { type := .switched, cls := 2, rated := 20, runTime := 2 }
     let s := cfgd (fun c => { c with channels := { c.channels with ch := c.channels.ch.set 10 k } })
       ((base.setChan 10 on).setChan 11 on)
     s.gateOn 10 = true ∧ s.gateOn 11 = true ∧ writesChannel 10 (wired.channels.ch[10]) s (fun t =>
       t.matched 10 11 && t.chan[10].level == 0 && t.chan[10].deadMs == some 0 && !t.gateOn 10 && !t.gateOn 11) = true) :=
  by decide +kernel

theorem test_a_rewrite_takes_a_channel_from_its_player :
    (let s := playing (aRun .dwell [4, 5] [])
     s.Calm ∧ s.chan[4].owner = .player 1 ∧ (s.player 1).pendingTrig = none ∧ (s.player 1).active.Nodup ∧
       writesChannel 4 { s.chCfg 4 with type := .switched } s (fun t => t.player 1 == aRun .dwell [5] [] &&
         t.chan[4].owner == .none && t.chan[4].level == 0 && t.chan[4].fade == none && replied .ok t) = true) := by
  decide +kernel

/-- The key holder's record, unchanged, is PROTECTED with the key off and taken with it on (log 84). -/
theorem test_an_equal_write_of_the_key :
    (let k := wired.general.di[12].bytes
     wired.general.di[12].role = .commissionKey ∧
       answers (.configWrite (req (2 + k.length)) 0 12 k) base (replied .prot) = true ∧
       answers (.configWrite (req (2 + k.length)) 0 12 k) keyTurned (replied .ok) = true) := by decide +kernel

/-- The demand of a channel just made BEACON is that of a beacon (R21). -/
theorem test_a_beacon_demands_by_its_blinking :
    (let k : ChCfg := { type := .beacon, rated := 80 }
     let c : Channel := { level := 600, owner := .beacon }
     demand true k c = 80 ∧ demand false k c = 0 ∧ demand true k {} = 0 ∧
       demand false { k with type := .dimmed } c = 29) ∧
    (let s := cfgd (fun c => { c with channels := { c.channels with ch := c.channels.ch.set 23 {} }
                                      supply := { c.supply with battery := 0 } })
       (base.setChan 4 { level := 1000, owner := .hostDirect })
     writesChannel 4 { s.chCfg 4 with type := .beacon } s (fun t => t.link.queue.isEmpty && t.chan[4].level == 0 &&
       t.chan[4].owner == .beacon && t.budget.last.c0 == 0) = true) := by decide +kernel

theorem test_config_takes_effect :
    answers (.configWrite (req 4) 7 3 (le16 3999)) base (fun t => t.budget.last.limit == 3999 && replied .ok t) = true ∧
    answers (.configWrite (req 4) 7 0 (le16 3999)) base (fun t => t.budget == base.budget) = true ∧
    answers (.configWrite (req 4) 8 0 (le16 99)) keyTurned (fun t => t.budget.last.margin == 99) = true ∧
    answers (.configWrite (req 4) 1 24 (le16 9)) base (fun t => t.cfg.channels.beaconStretch == 9) = true ∧
    answers (.configWrite (req 3) 0 20 [1]) { active .shorePresent base with
      vessel := { base.vessel with active := .battery, source := .gen1 } } (fun t => t.vessel.active == .shore &&
        noted .sourceChanged t) = true ∧
    answers (.configWrite (req 4) 0 21 (le16 2000)) base (fun t => t.link.supervision == some 2000) = true ∧
    answers (.configWrite (req 4) 6 1 (le16 2000)) (withWl { count := 9 }) (fun t => t.vessel.anchored &&
      noted .anchoredSet t) = true ∧
    answers (.configWrite (req 4) 6 4 (le16 1)) (withWl { count := 9, state := .hoisting }) (fun t =>
      !t.vessel.anchored) = true ∧
    (let turned (s : State) := active .commissionKey s
     answers (.configWrite (req 6) 8 7 (le32 10000)) (turned (drives .platform { runMs := 10000 })) (fun t =>
         (t.axis .platform).fault.map (·.cause) == some .runTimeout && t.stern.pack == {} &&
         (t.axis .platform).cooldown == some 60000) = true ∧
       answers (.configWrite (req 6) 8 7 (le32 10000)) (turned (drives .platform { runMs := 9999 })) (fun t =>
         (t.axis .platform).state == (turned (drives .platform { runMs := 9999 })).stern.platform.state) = true ∧
       answers (.configWrite (req 6) 8 13 (le32 30000)) (turned (withWl { state := .hoisting, up := true, heat := 30000 }))
         (fun t => t.wl.brakingEnd == some .lockout && t.wl.heat == 30000 && !t.wl.up) = true ∧
       answers (.configWrite (req 6) 8 13 (le32 30000)) (turned (withWl { state := .lockout, heat := 15000 })) (fun t =>
         t.wl.state == .idle && t.wl.heat == 15000) = true ∧
       answers (.configWrite (req 6) 8 13 (le32 30000)) (turned (withWl { state := .lockout, heat := 99999 })) (fun t =>
         t.wl.state == .lockout && t.wl.heat == 30000) = true) ∧
    (let role (n : Fin 4) (s : State) (p : State → Bool) :=
       answers (.configWrite (req 13) 0 (16 + n) ({ s.aiCfg n with role := .unused } : AiCfg).bytes) s p
     role 2 base (fun t => t.budget.supply == .brownout && t.budget.held && t.aiRt 2 == {}) = true ∧
       role 3 (withWl { state := .hoisting, up := true }) (fun t => t.wl.brakingEnd == some .fault &&
         t.wl.faultRec == some ⟨.currentSensor, .hoisting, 0, none, 0⟩) = true ∧
       role 0 (drives .platform { runMs := 7 }) (fun t => (t.axis .platform).fault.map (·.cause) ==
         some .positionSensor && (t.axis .hatch) == (drives .platform { runMs := 7 }).stern.hatch) = true) := by
  decide +kernel

/-- A player that loses its channel to a rewrite is told after the evaluations of the write, so that what the
binding on PLAYER_DONE starts finds the budget without the channel. -/
theorem test_a_player_is_told_after_the_evaluations :
    (let k : ChCfg := { type := .dimmed, cls := 0, rated := 150, trip := 200 }
     let on : Binding := onEvent .playerDone 1 { action := .axisGo, p1 := 0, p2 := 1000 }
     let u := bindings [on] (evaluate (cfgd (fun c => { c with
       channels := { c.channels with ch := c.channels.ch.set 4 k }, supply := { c.supply with battery := 560 } })
       (closed.setChan 4 { owner := .player 1, level := 1000, granted := 1000 })))
     let s := u.setPlayer 1 { state := .dwell, scene := some 3, active := [4], dwell := some 9 }
     s.budget.last.c0 = 150 ∧ (reserveFor .stern 400 s).toOption = none ∧
       writesChannel 4 { k with type := .unused } s (fun t => t.budget.last.c0 == 15 &&
         (t.axis .platform).state == .extending && t.budget.res.stern == some 400 && t.bind.counts[0] == 1) = true) := by
  decide +kernel

/-- The checks of a loaded channel record: CH0's factory record passes though it names itself. -/
theorem test_loaded_channel_records :
    ({} : ChCfg).loads 0 = true ∧ ({ type := .dimmed } : ChCfg).loads 0 = false ∧
    ({ partner := 23 } : ChCfg).loads 23 = false ∧ ({ partner := 22 } : ChCfg).loads 23 = true ∧
    sectionOk 1 {} = true ∧ sectionOk 1 wired = true ∧
    sectionOk 1 { channels := { ch := (Vector.replicate 24 {}).set 1 { partner := 1 } } } = false := by decide +kernel

theorem test_calibration_waits_for_the_next_conversion :
    (let s := withAi { fault := true, recovery := some 300, lastRaw := 3900 }
     let k := { s.aiCfg 0 with rawHi := 3000 }
     answers (.configWrite (req (2 + k.bytes.length)) 0 16 k.bytes) s (fun t => t.aiRt 0 == s.aiRt 0 &&
       t.aiCfg 0 == k && replied .ok t)) = true := by decide +kernel

theorem test_commit :
    (stored.Takes ∧ stored.committing = false ∧
      (∀ k : Fin 9, stored.dev.changed.getLsbD k = false ∧ sectionEqual stored.nv stored.cfg k = true) ∧
      sectionEqual base.nv base.cfg 0 = false) ∧
    answers (.commit (req 0)) (committing base) (replied .busy) = true ∧
    answers (.commit (req 0)) base (fun t => t.dev.commit == some ⟨0, true, [], 0⟩ && !t.nv.mark && replied .ok t) =
      true ∧
    answers (.commit (req 0)) { stored with dev := { changed := 256 } } (fun t => t.nv.limits == none &&
      t.dev.commit == some ⟨8, true, [], 0⟩ && !t.nv.mark) = true ∧
    answers (.commit (req 0)) stored (fun t => t.nv.mark && noted .commitDone t && t.dev.commit == none) = true ∧
    answers (.commitSectionDone true) (committing base) (fun t => t.dev.commit == some ⟨1, true, [0], 0⟩ &&
      t.nv.general == some wired.general) = true ∧
    answers (.commitSectionDone true)
      { stored with dev := { commit := some ⟨8, true, [], 7⟩, changed := 256 } } (fun t =>
      t.nv.mark && noted .commitDone t && t.dev.changed == 0 && t.dev.commit == none) = true ∧
    answers (.commitSectionDone false)
      { stored with dev := { commit := some ⟨8, true, [0], 7⟩, changed := 257 } } (fun t =>
      t.nv.limits == none && noted .commitFailed t && t.dev.changed == 256) = true := by decide +kernel

/-! ### What holds where nothing is due -/

theorem test_nothing_is_due :
    (base.scene.assembly = none ∧ base.scene.idleWork = [] ∧ base.startUpOver = false ∧ base.dev.commit = none ∧
      base.panel.call = none ∧ base.link.device = .linked ∧ base.wl.state.powered = false) ∧
    ([.fadeStep 4, .dwellEnd 0, .writeLapsed, .channelRetry 4, .tripSeriesQuiet 4, .pairTimeout 10, .beaconBlinkHalf,
      .beaconStretchEnd, .stateNormal, .unlatchTimeout .hatch, .runOnEnd, .brakingEnd, .creepEnd, .lockoutEnd,
      .countCellWriteDone, .commitSectionDone true, .missedAnswer, .startUpInputsSettled] : List Instr).all
      (fun i => answers i base (· == base)) = true := by decide +kernel

end Sys2Proof.Tests
end

section
/-! PROOFS. The supply budget: what an evaluation finds, grants and leaves (R20 to R26), and the reservations of
the EXT holders (R28 to R31). -/

namespace Sys2Proof.Machine

/-! ### Notices only join the queue (R196) -/

/-- A notice joins the queue at its tail or not at all: what was queued stays in front. -/
theorem notice_queue_prefix (n : Note) (a : Nat) (v : List Int) (s : State) :
    s.link.queue <+: (notice n a v s).link.queue := by
  unfold notice
  split
  · split
    · exact List.prefix_append ..
    · exact List.prefix_refl _
  · exact List.prefix_refl _

/-- A notice that is given only where a condition has changed. -/
theorem notice_if_queue_prefix (p : Prop) [Decidable p] (n : Note) (a : Nat) (v : List Int) (s : State) :
    s.link.queue <+: (if p then s else notice n a v s).link.queue := by
  split
  · exact List.prefix_refl _
  · exact notice_queue_prefix ..

/-- The conditions' notices join the queue that stood before the evaluation. -/
theorem settleConditions_queue_prefix (e : Eval) (s : State) :
    s.link.queue <+: (settleConditions e s).link.queue := by
  unfold settleConditions
  simp only []
  refine List.IsPrefix.trans ?_ (notice_if_queue_prefix ..)
  refine List.IsPrefix.trans ?_ (notice_if_queue_prefix ..)
  exact List.prefix_refl _

theorem evaluate_queue_prefix (s : State) : s.link.queue <+: (evaluate s).link.queue := by
  unfold evaluate
  split
  · exact List.prefix_refl _
  · exact settleConditions_queue_prefix _ (applyGrants (evalFigures s) s)

/-- What leaves the still part leaves the link but for the notice queue and its overflow flag. -/
theorem still_link {s t : State} (h : t.still = s.still) :
    t.link = { s.link with queue := t.link.queue, overflow := t.link.overflow } := by
  have hl : { t.link with queue := [], overflow := false } = { s.link with queue := [], overflow := false } :=
    congrArg State.link h
  calc t.link = { { t.link with queue := [], overflow := false } with
                  queue := t.link.queue, overflow := t.link.overflow } := rfl
    _ = _ := by rw [hl]

/-! ### Sums over a list of channels -/

/-- A bound between two figures of each member, each to its own scale, holds of their sums. -/
theorem mul_sum_le_sum_mul {α : Type} {f g : α → Nat} {m n : Nat} (h : ∀ a, m * f a ≤ g a * n) (l : List α) :
    m * (l.map f).sum ≤ (l.map g).sum * n := by
  induction l with
  | nil => exact Nat.zero_le _
  | cons a l ih =>
    simp only [List.map_cons, List.sum_cons, Nat.mul_add, Nat.add_mul]
    exact Nat.add_le_add (h a) ih

/-- A figure that is the sum of three at each member is so over the whole list. -/
theorem sum_map_split {α : Type} {f g₁ g₂ g₃ : α → Nat} (h : ∀ a, f a = g₁ a + g₂ a + g₃ a) (l : List α) :
    (l.map f).sum = (l.map g₁).sum + (l.map g₂).sum + (l.map g₃).sum := by
  induction l with
  | nil => rfl
  | cons a l ih =>
    simp only [List.map_cons, List.sum_cons, ih, h a]
    omega

/-! ### One class's share of the remainder (R23) -/

/-- The three rows of R23: what a class of demand `c` gets of a remainder, its factor and what it leaves. -/
def SharesClass (c rem f rest : Nat) : Prop :=
  (c = 0 → f = 1000 ∧ rest = rem) ∧ (0 < c → c ≤ rem → f = 1000 ∧ rest = rem - c) ∧
    (rem < c → f = 1000 * rem / c ∧ rest = 0)

theorem classShare_rows (c rem : Nat) : SharesClass c rem (classShare c rem).1 (classShare c rem).2 := by
  unfold SharesClass classShare
  refine ⟨fun h => ?_, fun h hr => ?_, fun h => ?_⟩
  · rw [if_pos h]; exact ⟨rfl, rfl⟩
  · rw [if_neg (by omega), if_pos hr]; exact ⟨rfl, rfl⟩
  · rw [if_neg (by omega), if_neg (by omega)]; exact ⟨rfl, rfl⟩

namespace SharesClass
variable {c rem f rest : Nat} (h : SharesClass c rem f rest)
include h

/-- A factor is in thousandths. -/
theorem factor_le : f ≤ 1000 := by
  obtain ⟨absent, whole, scaled⟩ := h
  rcases Nat.eq_zero_or_pos c with h0 | h0
  · exact Nat.le_of_eq (absent h0).1
  · rcases Nat.lt_or_ge rem c with hr | hr
    · rw [(scaled hr).1]
      exact Nat.div_le_of_le_mul (by omega)
    · exact Nat.le_of_eq (whole h0 hr).1

/-- A class's demand, scaled by its factor, and what it leaves come out of the remainder it was handed: the factor
is truncated, so a scaled class never takes more (R26, why the bound holds). -/
theorem spent_le : c * f + 1000 * rest ≤ 1000 * rem := by
  obtain ⟨absent, whole, scaled⟩ := h
  rcases Nat.eq_zero_or_pos c with h0 | h0
  · obtain ⟨rfl, rfl⟩ := absent h0
    simp [h0]
  · rcases Nat.lt_or_ge rem c with hr | hr
    · obtain ⟨rfl, rfl⟩ := scaled hr
      exact Nat.mul_div_le (1000 * rem) c
    · obtain ⟨rfl, rfl⟩ := whole h0 hr
      omega

end SharesClass

/-! ### The figures (R21 to R23) -/

/-- Stage 4: the remainder that classes 1 to 3 share (R22). -/
def State.remainder (s : State) : Nat :=
  if s.budget.supply = .normal then (evalFigures s).avail - (evalFigures s).c0 else 0

/-- A is S - M less what is reserved, or 0 if that is negative. -/
theorem evalFigures_avail (s : State) : ((evalFigures s).avail : Int) =
    max 0 ((s.cfg.supply.limit s.vessel.active : Int) - s.cfg.limits.margin - s.budget.res.total) := by
  have ha : (evalFigures s).avail =
      s.cfg.supply.limit s.vessel.active - (s.cfg.limits.margin + s.budget.res.total) := rfl
  omega

/-- The classes are handed the remainder one after the other. -/
theorem evalFigures_shares (s : State) : ∃ r1 r2 : Nat,
    SharesClass (evalFigures s).c1 s.remainder (evalFigures s).f1 r1 ∧
    SharesClass (evalFigures s).c2 r1 (evalFigures s).f2 r2 ∧
    SharesClass (evalFigures s).c3 r2 (evalFigures s).f3 (evalFigures s).rest := by
  unfold State.remainder
  simp only [evalFigures]
  exact ⟨_, _, classShare_rows .., classShare_rows .., classShare_rows ..⟩

theorem evalFigures_factor_le (s : State) (j : Nat) : (evalFigures s).factor j ≤ 1000 := by
  obtain ⟨r1, r2, h1, h2, h3⟩ := evalFigures_shares s
  unfold Eval.factor
  split
  · exact Nat.le_refl _
  · split
    · exact h1.factor_le
    · split
      · exact h2.factor_le
      · exact h3.factor_le

/-- BUDGET_OVER as R22 words it. -/
theorem isOver_eq (e : Eval) : e.isOver = decide (e.avail < e.c0) := rfl

/-- SHEDDING as R25 words it: a class of 1 to 3 has a demand and is not granted whole. -/
theorem sheds_eq (e : Eval) : e.sheds = (decide (0 < e.c1 ∧ e.f1 < 1000) || decide (0 < e.c2 ∧ e.f2 < 1000) ||
    decide (0 < e.c3 ∧ e.f3 < 1000)) := by
  have row (c f : Nat) : (c != 0 && decide (f < 1000)) = decide (0 < c ∧ f < 1000) := by
    cases c <;> simp
  simp only [Eval.sheds, row]

/-- An evaluation finds the same figures again: of the channels it changes only the grants. -/
theorem evalFigures_evaluate (s : State) : evalFigures (evaluate s) = evalFigures s := by
  have demands (i : Fin 24) : demand (evaluate s).beacon.blinking ((evaluate s).chCfg i) (evaluate s).chan[i] =
      demand s.beacon.blinking (s.chCfg i) s.chan[i] := by
    cases h : s.starting with
    | true => rw [evaluate, if_pos h]
    | false => simp only [evaluate_chan h, State.chCfg, evaluate_cfg, evaluate_beacon]; rfl
  have classes (j : Nat) : classDemand (evaluate s) j = classDemand s j := by
    unfold classDemand
    simp only [demands]
    simp only [State.chCfg, evaluate_cfg]
    rfl
  unfold evalFigures
  simp only [classes, evaluate_cfg, evaluate_vessel, evaluate_res, evaluate_supply]

/-- An evaluation keeps its figures and the two conditions; the rest of the block it leaves. -/
theorem evaluate_budget {s : State} (h : s.starting = false) : (evaluate s).budget = { s.budget with
    last := evalFigures s, budgetOver := (evalFigures s).isOver, shedding := (evalFigures s).sheds } := by
  unfold evaluate
  rw [if_neg (by simp [h]), settleConditions_budget]
  rfl

theorem evaluate_budgetOver {s : State} (h : s.starting = false) :
    (evaluate s).budget.budgetOver = (evalFigures s).isOver := by rw [evaluate_budget h]

theorem evaluate_shedding {s : State} (h : s.starting = false) :
    (evaluate s).budget.shedding = (evalFigures s).sheds := by rw [evaluate_budget h]

/-! ### The grants (R24, R26) -/

/-- G never exceeds D. -/
theorem grantedDuty_le {e : Eval} (he : ∀ j, e.factor j ≤ 1000) (k : ChCfg) (c : Channel) :
    grantedDuty e k c ≤ c.duty := by
  unfold grantedDuty
  split
  · exact Nat.zero_le _
  · split
    · exact Nat.le_refl _
    · split
      · exact Nat.div_le_of_le_mul (Nat.mul_comm 1000 c.duty ▸ Nat.mul_le_mul_left _ (he _))
      · split
        · exact Nat.le_refl _
        · exact Nat.zero_le _

/-- Outside class 0 a channel is granted at most its demand scaled by its class's factor: a DIMMED one that much,
truncated, a switched one all or nothing. -/
theorem grantedCurrent_le (e : Eval) (b : Bool) {k : ChCfg} (c : Channel) (hk : k.budgetClass ≠ 0) :
    1000 * grantedCurrent e b k c ≤ demand b k c * e.factor k.budgetClass := by
  unfold grantedCurrent
  split
  · exact Nat.zero_le _
  · split
    · exact Nat.mul_div_le ..
    · split
      · next hf => exact Nat.le_of_eq (by rw [hf, Nat.mul_comm])
      · exact Nat.zero_le _

/-- The granted current of class j over all channels. -/
def classGrant (s : State) (j : Nat) : Nat :=
  ((List.finRange 24).map fun i => if (s.chCfg i).budgetClass = j then
    grantedCurrent (evalFigures s) s.beacon.blinking (s.chCfg i) s.chan[i] else 0).sum

/-- A class's channels together take at most its demand scaled by its factor. -/
theorem classGrant_le (s : State) {j : Nat} (hj : j ≠ 0) :
    1000 * classGrant s j ≤ classDemand s j * (evalFigures s).factor j := by
  refine mul_sum_le_sum_mul (fun i => ?_) _
  split
  · next hk => exact hk ▸ grantedCurrent_le _ _ _ (hk ▸ hj)
  · simp

/-- Classes 1 to 3 together take no more than the remainder of stage 4. -/
theorem classGrants_le_remainder (s : State) :
    classGrant s 1 + classGrant s 2 + classGrant s 3 ≤ s.remainder := by
  obtain ⟨r1, r2, h1, h2, h3⟩ := evalFigures_shares s
  have g1 : 1000 * classGrant s 1 ≤ (evalFigures s).c1 * (evalFigures s).f1 := classGrant_le s Nat.one_ne_zero
  have g2 : 1000 * classGrant s 2 ≤ (evalFigures s).c2 * (evalFigures s).f2 := classGrant_le s (by decide)
  have g3 : 1000 * classGrant s 3 ≤ (evalFigures s).c3 * (evalFigures s).f3 := classGrant_le s (by decide)
  have s1 := h1.spent_le
  have s2 := h2.spent_le
  have s3 := h3.spent_le
  omega

theorem budgetClass_le {k : ChCfg} (h : k.cls ≤ 3) : k.budgetClass ≤ 3 := by
  unfold ChCfg.budgetClass
  split
  · exact Nat.zero_le _
  · exact h

/-- With every class in range, what is granted outside class 0 is what classes 1, 2 and 3 are granted. -/
theorem granted_eq_classGrants {s : State} (h : ∀ i : Fin 24, (s.chCfg i).cls ≤ 3) :
    ((List.finRange 24).map fun i => if (s.chCfg i).budgetClass = 0 then 0 else
      grantedCurrent (evalFigures s) s.beacon.blinking (s.chCfg i) s.chan[i]).sum =
    classGrant s 1 + classGrant s 2 + classGrant s 3 := by
  refine sum_map_split (fun i => ?_) _
  have hk := budgetClass_le (h i)
  have hcase : (s.chCfg i).budgetClass = 0 ∨ (s.chCfg i).budgetClass = 1 ∨ (s.chCfg i).budgetClass = 2 ∨
      (s.chCfg i).budgetClass = 3 := by omega
  rcases hcase with hk | hk | hk | hk
  · simp [hk]
  · simp [hk]
  · simp [hk]
  · simp [hk]

/-- Settles O28, by the figures an evaluation keeps and the rows of its table. -/
theorem evaluationGrantsByClass : Obligations.EvaluationGrantsByClass := by
  intro s hs
  have hlast := evaluate_last hs
  simp only [hlast]
  obtain ⟨r1, r2, h1, h2, h3⟩ := evalFigures_shares s
  refine ⟨rfl, evalFigures_avail s, fun i => rfl, rfl, rfl, rfl, rfl, ⟨r1, r2, h1, h2, h3⟩,
    h1.factor_le, h2.factor_le, h3.factor_le, fun i => ⟨evaluate_chan hs i, ?_⟩, ?_, ?_, ?_,
    still_link (evaluate_still s), evaluate_queue_prefix s, evaluate_beacon s, evaluate_dev s, evaluate_pending s,
    evaluate_cfg s, evaluate_scene s, evaluate_stern s, evaluate_wl s, evaluate_inp s, evaluate_vessel s,
    evaluate_panel s, evaluate_bind s, evaluate_nv s⟩
  · rw [evaluate_chan hs i]; exact grantedDuty_le (evalFigures_factor_le s) _ _
  · rw [evaluate_budgetOver hs, isOver_eq]
  · rw [evaluate_shedding hs, sheds_eq]
  · rw [evaluate_budget hs]

/-- Settles O29: the three classes share the remainder, which is 0 outside NORMAL and else A - C0. -/
theorem grantsStayWithinTheBudget : Obligations.GrantsStayWithinTheBudget := by
  intro s hs hcls
  simp only [evaluate_last hs, granted_eq_classGrants hcls]
  have hle := classGrants_le_remainder s
  have havail := evalFigures_avail s
  have hc0 : (evalFigures s).c0 = classDemand s 0 := rfl
  unfold State.remainder at hle
  refine ⟨?_, fun hn => ?_⟩
  · split at hle <;> omega
  · rw [if_neg hn] at hle; omega

/-! ### Requests for a reservation (R28, R29) -/

theorem requestNew_lowSupply {s : State} (h : ResHolder) (a : Nat) (hs : s.budget.supply ≠ .normal) :
    requestNew h a s = .error .supplyLow := if_pos hs

theorem requestNew_noRoom {s : State} {h : ResHolder} {a : Nat} (hs : s.budget.supply = .normal)
    (hf : s.reserveFits h a = false) : requestNew h a s = .error .noBudget := by
  rw [requestNew, if_neg (fun h => h hs), if_neg (by simp [hf])]

theorem requestNew_admitted {s : State} {h : ResHolder} {a : Nat} (hs : s.budget.supply = .normal)
    (hf : s.reserveFits h a = true) : requestNew h a s = .ok (evaluate (s.setRes h (some a))) := by
  rw [requestNew, if_neg (fun h => h hs), if_pos hf]

/-- An amount above what the holder has, or of a holder without an entry, takes the test of R28. -/
theorem reserveFor_more {s : State} {h : ResHolder} {a : Nat}
    (ha : ∀ old, s.budget.res.get h = some old → old < a) : reserveFor h a s = requestNew h a s := by
  unfold reserveFor
  split
  · next old ho =>
    have := ha old ho
    rw [if_neg (by omega), if_neg (by omega)]
  · rfl

theorem reserveFor_less {s : State} {h : ResHolder} {a old : Nat} (ho : s.budget.res.get h = some old)
    (ha : a < old) : reserveFor h a s = .ok (evaluate (s.setRes h (some a))) := by
  unfold reserveFor
  simp only [ho]
  rw [if_neg (by omega), if_pos ha]

theorem reserveFor_same {s : State} {h : ResHolder} {a : Nat} (ho : s.budget.res.get h = some a) :
    reserveFor h a s = .ok s := by
  unfold reserveFor
  simp only [ho, if_true]

theorem freeRes_held {s : State} {h : ResHolder} {old : Nat} (ho : s.budget.res.get h = some old) :
    freeRes h s = evaluate (s.setRes h none) := by
  unfold freeRes
  simp only [ho]

theorem freeRes_absent {s : State} {h : ResHolder} (ho : s.budget.res.get h = none) : freeRes h s = s := by
  unfold freeRes
  simp only [ho]

/-! ### RESERVE and RELEASE (R31) -/

/-- The host names the EXT holders by their codes. -/
theorem extHolder_code {h : ResHolder} (hs : h ≠ .stern) (hw : h ≠ .windlass) :
    extHolder (codeIn resHolders h) = some h := by
  cases h with
  | stern => exact absurd rfl hs
  | windlass => exact absurd rfl hw
  | ext1 | ext2 | ext3 | ext4 => rfl

/-- The host names no other holder. -/
theorem extHolder_other {n : Nat} (h : n < 2 ∨ 6 ≤ n) : extHolder n = none := by
  unfold extHolder
  split
  · rfl
  · exact List.getElem?_eq_none (by simp only [resHolders, List.length_cons, List.length_nil]; omega)

theorem reserve_refused {s : State} {h : ResHolder} {n a : Nat} {c : Status} (hn : extHolder n = some h)
    (ha : a ≤ 4000) (hr : reserveFor h a s = .error c) : reserve n a s = (s, Ans.refused c) := by
  unfold reserve
  simp only [hn, hr]
  rw [if_neg (by omega)]

theorem reserve_taken {s t : State} {h : ResHolder} {n a : Nat} (hn : extHolder n = some h)
    (ha : a ≤ 4000) (hr : reserveFor h a s = .ok t) : reserve n a s = (t, Ans.ok) := by
  unfold reserve
  simp only [hn, hr]
  rw [if_neg (by omega)]

/-- A holder the host does not name, or an amount above 4000. -/
theorem reserve_outOfRange {n a : Nat} (h : n < 2 ∨ 6 ≤ n ∨ 4000 < a) (s : State) :
    reserve n a s = (s, Ans.refused .outOfRange) := by
  unfold reserve
  split
  · rfl
  · next x hx =>
    have hn : ¬(n < 2 ∨ 6 ≤ n) := fun hn => by simp [extHolder_other hn] at hx
    rw [if_pos (by omega)]

theorem release_ext {n : Nat} {h : ResHolder} (hn : extHolder n = some h) (s : State) :
    release n s = (freeRes h s, Ans.ok) := by
  unfold release
  simp only [hn]

theorem release_outOfRange {n : Nat} (h : n < 2 ∨ 6 ≤ n) (s : State) :
    release n s = (s, Ans.refused .outOfRange) := by
  unfold release
  simp only [extHolder_other h]

theorem exec_reserve (q : Req) (n a : Nat) (s : State) :
    exec (.reserve q n a) s = .next (takeFixed 0x0E q 3 (reserve n a) s) := rfl

theorem exec_release (q : Req) (n : Nat) (s : State) :
    exec (.release q n) s = .next (takeFixed 0x0F q 1 (release n) s) := rfl

section Requests
variable {q : Req} {s : State} (ht : s.Takes)
include ht

/-- A RESERVE that is refused, or changes nothing, forms its reply alone. -/
theorem exec_reserve_same {n r : Nat} {a : Ans} (hl : q.len = 3)
    (hb : reserve n r (s.taken 0x0E q) = (s.taken 0x0E q, a)) :
    exec (.reserve q n r) s = .next (withReply 0x0E q a s) := by
  rw [exec_reserve, takeFixed_same ht hl (by rw [leaveList_taken]; exact hb)]

/-- A RESERVE that its block takes is answered OK. -/
theorem exec_reserve_made {n r : Nat} {t : State} (hl : q.len = 3)
    (hb : reserve n r (s.taken 0x0E q) = (t, Ans.ok)) :
    exec (.reserve q n r) s = .next (formReply 0x0E q.tag Ans.ok t) := by
  rw [exec_reserve, takeFixed_ok ht hl, leaveList_taken, hb]

theorem exec_release_same {n : Nat} {a : Ans} (hl : q.len = 1)
    (hb : release n (s.taken 0x0F q) = (s.taken 0x0F q, a)) :
    exec (.release q n) s = .next (withReply 0x0F q a s) := by
  rw [exec_release, takeFixed_same ht hl (by rw [leaveList_taken]; exact hb)]

theorem exec_release_made {n : Nat} {t : State} (hl : q.len = 1)
    (hb : release n (s.taken 0x0F q) = (t, Ans.ok)) :
    exec (.release q n) s = .next (formReply 0x0F q.tag Ans.ok t) := by
  rw [exec_release, takeFixed_ok ht hl, leaveList_taken, hb]

end Requests

/-- Settles O30: each request goes through the Command Link to its block, which answers by R28, R29 and R30. -/
theorem reservationsAreAdmitted : Obligations.ReservationsAreAdmitted := by
  intro q s h ht hs hw
  have hc := extHolder_code hs hw
  refine ⟨fun r hl hr hmore => ?_, fun r old hl hr ho hlt => ?_, fun r hl hr ho => ?_, fun old hl ho => ?_,
    fun hl ho => ?_, fun n r hl hn => ?_, fun n hl hn => ?_⟩
  · have htest : reserveFor h r (s.taken 0x0E q) = requestNew h r (s.taken 0x0E q) := reserveFor_more hmore
    refine ⟨fun hsup => ?_, fun hsup hover => ?_, fun hsup hfit => ?_⟩
    · exact exec_reserve_same ht hl (reserve_refused hc hr (htest.trans (requestNew_lowSupply _ _ hsup)))
    · exact exec_reserve_same ht hl (reserve_refused hc hr (htest.trans
        (requestNew_noRoom hsup (decide_eq_false (Nat.not_le.2 hover)))))
    · exact exec_reserve_made ht hl (reserve_taken hc hr (htest.trans
        (requestNew_admitted hsup (decide_eq_true hfit))))
  · exact exec_reserve_made ht hl (reserve_taken hc hr (reserveFor_less (s := s.taken 0x0E q) ho hlt))
  · exact exec_reserve_same ht hl (reserve_taken hc hr (reserveFor_same (s := s.taken 0x0E q) ho))
  · refine exec_release_made ht hl ((release_ext hc _).trans ?_)
    rw [freeRes_held (s := s.taken 0x0F q) ho]
  · refine exec_release_same ht hl ((release_ext hc _).trans ?_)
    rw [freeRes_absent (s := s.taken 0x0F q) ho]
  · exact exec_reserve_same ht hl (reserve_outOfRange hn _)
  · exact exec_release_same ht hl (release_outOfRange hn _)

end Sys2Proof.Machine
end

section
/-! PROOFS. The moves of the supply state (R33 to R35): what a move leaves as it was, how CRITICAL stops the running
motions (R108, R139), and the notice with its evaluation. -/

namespace Sys2Proof.Machine

/-! ### A move's notice, its evaluation and the next dwell -/

/-- The standing bus value runs a dwell or none; else nothing changes. -/
theorem judgeStanding_eq (s : State) :
    ∃ d, judgeStanding s = { s with budget := { s.budget with dwell := d } } := by
  unfold judgeStanding
  split
  · exact ⟨s.budget.dwell, rfl⟩
  · unfold judgeReading
    split
    · exact ⟨_, rfl⟩
    · split
      · split
        · exact ⟨s.budget.dwell, rfl⟩
        · exact ⟨_, rfl⟩
      · exact ⟨_, rfl⟩

/-- What a state that a move prepared, and the notice it gives, come to: nothing changes but the queue, the grants and
the Supply Budget block's own figures, which are those of the evaluation. -/
structure Announced (n : Note) (subject : Nat) (values : List Int) (u t : State) : Prop where
  queue : (notice n subject values u).link.queue <+: t.link.queue
  supply : t.budget.supply = u.budget.supply
  res : t.budget.res = u.budget.res
  stern : t.stern = u.stern
  wl : t.wl = u.wl
  cfg : t.cfg = u.cfg
  inp : t.inp = u.inp
  last : u.starting = false → t.budget.last = evalFigures t

/-- Every move ends with its notice, the evaluation, and the dwell of the state just entered (R33, log 18). -/
theorem announced (n : Note) (subject : Nat) (values : List Int) (u : State) :
    Announced n subject values u (judgeStanding (evaluate (notice n subject values u))) := by
  obtain ⟨d, hd⟩ := judgeStanding_eq (evaluate (notice n subject values u))
  rw [hd]
  refine ⟨evaluate_queue_prefix _, by simp, by simp, by simp, by simp, by simp, by simp, fun hu => ?_⟩
  have hn : (notice n subject values u).starting = false := by simpa [State.starting] using hu
  calc (evaluate (notice n subject values u)).budget.last
      = evalFigures (notice n subject values u) := evaluate_last hn
    _ = evalFigures (evaluate (notice n subject values u)) := (evalFigures_evaluate _).symm

/-- A notice that a move gives once its own work, which may give others, is done. -/
theorem Announced.gives {n : Note} {subject : Nat} {values : List Int} {s u t : State}
    (h : Announced n subject values u t) (hq : s.link.queue <+: u.link.queue)
    (he : u.link.enabled = s.link.enabled) (ht : u.dev.uptime = s.dev.uptime) :
    Gives n subject values s t := ⟨u, hq, he, ht, h.queue⟩

theorem dwellOver_run {s : State} {new : SupplyState} {ms : Nat} (hd : s.budget.dwell = some (new, ms))
    (hm : dwellTime s.budget.supply new ≤ ms) : s.dwellOver new = true := by
  simp [State.dwellOver, hd, reached, hm]

theorem exec_supplyToBrownout (s : State) : exec .supplyToBrownout s = .next (supplyToBrownout s) := rfl
theorem exec_stateNormal (s : State) : exec .stateNormal s = .next (supplyToNormal s) := rfl
theorem exec_stateCritical (s : State) : exec .stateCritical s = .next (supplyToCritical offerNow s) := rfl

/-! ### What the parts of R35 leave -/

/-- Work of the motion blocks that no binding hears of: the still part, the reservations and the Binding block stay
as they are, and of the notices only new ones join. -/
structure LeavesEntries (s t : State) : Prop where
  still : t.still = s.still
  queue : s.link.queue <+: t.link.queue
  res : t.budget.res = s.budget.res
  bind : t.bind = s.bind

theorem LeavesEntries.refl (s : State) : LeavesEntries s s := ⟨rfl, List.prefix_refl _, rfl, rfl⟩

theorem LeavesEntries.trans {s t u : State} (h : LeavesEntries s t) (h' : LeavesEntries t u) : LeavesEntries s u :=
  ⟨h'.still.trans h.still, h.queue.trans h'.queue, h'.res.trans h.res, h'.bind.trans h.bind⟩

/-- Started up, with no action carried out, no event waiting and no binding enabled: an event offered changes
nothing. -/
structure State.Deaf (s : State) : Prop where
  started : s.starting = false
  acting : s.bind.acting = none
  events : s.bind.events = []
  unbound : s.Unbound

theorem State.Deaf.offerNow {s : State} (h : s.Deaf) (e : Event) : offerNow e s = s :=
  offerNow_unbound e h.started h.acting h.events h.unbound

theorem LeavesEntries.deaf {s t : State} (h : LeavesEntries s t) (hs : s.Deaf) : t.Deaf where
  started := (still_starting h.still).trans hs.started
  acting := by rw [h.bind, hs.acting]
  events := by rw [h.bind, hs.events]
  unbound := fun i => by rw [still_cfg h.still]; exact hs.unbound i

/-! ### The shared operations -/

theorem notice_leaves (n : Note) (a : Nat) (v : List Int) (s : State) : LeavesEntries s (notice n a v s) :=
  ⟨notice_still .., notice_queue_prefix .., by simp, notice_bind ..⟩

theorem evaluate_leaves (s : State) : LeavesEntries s (evaluate s) :=
  ⟨evaluate_still s, evaluate_queue_prefix s, evaluate_res s, evaluate_bind s⟩

/-- A write that touches none of what `LeavesEntries` speaks of. -/
theorem LeavesEntries.of_eq {s t : State} (hs : t.still = s.still) (hl : t.link = s.link)
    (hb : t.budget = s.budget) (hd : t.bind = s.bind) : LeavesEntries s t :=
  ⟨hs, hl ▸ List.prefix_refl _, congrArg Budget.res hb, hd⟩

theorem levelTo_leaves (i : Fin 24) (l : Nat) (s : State) : LeavesEntries s (levelTo i l s) := by
  have set (c : Channel) : LeavesEntries s (s.setChan i c) := .of_eq rfl rfl rfl rfl
  have dead (u : State) : LeavesEntries u (startDeadTime i u) := .of_eq (by simp) (by simp) (by simp) (by simp)
  unfold levelTo
  simp only []
  split <;> split
  · exact (set _).trans (dead _)
  · exact set _
  · exact ((set _).trans (dead _)).trans (evaluate_leaves _)
  · exact (set _).trans (evaluate_leaves _)

theorem driveBeacon_leaves (s : State) : LeavesEntries s (driveBeacon s) := by
  unfold driveBeacon
  split
  · exact .refl s
  · exact levelTo_leaves ..

/-- A write of the beacon's record alone. -/
theorem beacon_leaves (b : Beacon) (s : State) : LeavesEntries s { s with beacon := b } := .of_eq rfl rfl rfl rfl

theorem beaconUpdate_leaves (s : State) : LeavesEntries s (beaconUpdate s) := by
  unfold beaconUpdate
  split
  · exact .refl s
  · split
    · split
      · exact beacon_leaves ..
      · exact (beacon_leaves _ s).trans (driveBeacon_leaves _)
    · split
      · exact (beacon_leaves _ s).trans (driveBeacon_leaves _)
      · exact beacon_leaves ..

theorem modAxis_leaves (a : AxisId) (f : Axis → Axis) (s : State) : LeavesEntries s (s.modAxis a f) :=
  .of_eq (by simp) (by simp) (by simp) (by simp)

theorem judgeClear_leaves (a : AxisId) (s : State) : LeavesEntries s (judgeClear a s) := by
  cases a <;> exact .of_eq rfl rfl rfl rfl

theorem axisTo_leaves (a : AxisId) (st : AxState) (s : State) : LeavesEntries s (axisTo a st s) :=
  ((modAxis_leaves a _ s).trans (judgeClear_leaves a _)).trans (beaconUpdate_leaves _)

theorem endHolding_leaves (ad k : Nat) (x : HoldSubject) (s : State) : LeavesEntries s (endHolding ad k x s) :=
  .of_eq (by simp) (by simp) (by simp) (by simp)

theorem dropHolder_leaves (a : AxisId) (s : State) : LeavesEntries s (dropHolder a s) := by
  unfold dropHolder
  simp only []
  split
  · exact (modAxis_leaves ..).trans (endHolding_leaves ..)
  all_goals exact modAxis_leaves ..

theorem tellSeq_leaves (who : Option Nat) (e : SeqEvent) (s : State) : LeavesEntries s (tellSeq who e s) := by
  cases who <;> exact .of_eq rfl rfl rfl rfl

theorem setPack_leaves (p : Pack) (s : State) : LeavesEntries s (s.setPack p) := .of_eq rfl rfl rfl rfl

/-! ### What else they leave: the pack, the other axis, the windlass, what sequences were told -/

@[simp] theorem modAxis_pack (s : State) (a : AxisId) (f : Axis → Axis) :
    (s.modAxis a f).stern.pack = s.stern.pack := by cases a <;> rfl
@[simp] theorem modAxis_seqWork (s : State) (a : AxisId) (f : Axis → Axis) :
    (s.modAxis a f).stern.seqWork = s.stern.seqWork := by cases a <;> rfl
theorem modAxis_ne (s : State) {a b : AxisId} (f : Axis → Axis) (h : b ≠ a) :
    (s.modAxis a f).axis b = s.axis b := by
  cases a with
  | platform => cases b with
    | platform => exact absurd rfl h
    | hatch => rfl
  | hatch => cases b with
    | platform => rfl
    | hatch => exact absurd rfl h

@[simp] theorem judgeClear_pack (a : AxisId) (s : State) : (judgeClear a s).stern.pack = s.stern.pack := by
  cases a <;> rfl
@[simp] theorem judgeClear_seqWork (a : AxisId) (s : State) :
    (judgeClear a s).stern.seqWork = s.stern.seqWork := by cases a <;> rfl
@[simp] theorem judgeClear_axis (a b : AxisId) (s : State) : (judgeClear a s).axis b = s.axis b := by
  cases a <;> cases b <;> rfl
@[simp] theorem judgeClear_wl (a : AxisId) (s : State) : (judgeClear a s).wl = s.wl := by cases a <;> rfl

@[simp] theorem axisTo_pack (a : AxisId) (st : AxState) (s : State) :
    (axisTo a st s).stern.pack = s.stern.pack := by simp [axisTo]
@[simp] theorem axisTo_seqWork (a : AxisId) (st : AxState) (s : State) :
    (axisTo a st s).stern.seqWork = s.stern.seqWork := by simp [axisTo]
@[simp] theorem axisTo_wl (a : AxisId) (st : AxState) (s : State) : (axisTo a st s).wl = s.wl := by simp [axisTo]
@[simp] theorem axisTo_self (a : AxisId) (st : AxState) (s : State) :
    (axisTo a st s).axis a = { s.axis a with state := st } := by simp [axisTo]
theorem axisTo_ne {a b : AxisId} (st : AxState) (s : State) (h : b ≠ a) :
    (axisTo a st s).axis b = s.axis b := by simp [axisTo, modAxis_ne _ _ h]

/-- A holder that goes changes its axis's record and, where it was a panel's, the panel's holdings. -/
theorem dropHolder_stern (a : AxisId) (s : State) :
    (dropHolder a s).stern = (s.modAxis a fun x => { x with holder := .none }).stern := by
  unfold dropHolder
  simp only []
  split
  · exact endHolding_stern ..
  all_goals rfl
@[simp] theorem dropHolder_wl (a : AxisId) (s : State) : (dropHolder a s).wl = s.wl := by
  unfold dropHolder
  simp only []
  split <;> simp
theorem axis_congr {s t : State} (h : t.stern = s.stern) (a : AxisId) : t.axis a = s.axis a := by
  cases a <;> simp [State.axis, h]

/-! ### A watched axis faults with SUPPLY (R104, R108) -/

/-- The outputs of the pack that serve an axis go off. -/
def packOffFor (a : AxisId) (s : State) : State := if s.stern.pack.axis = some a then packOff s else s

/-- A fault with SUPPLY of a watched axis, up to its notice; the STERN entry is the Supply Budget block's to
remove. -/
def supplyFault (a : AxisId) (s : State) : State :=
  notice .axFault (axisIdx a)
    [codeIn axCauses .supply, codeIn axStates (s.axis a).state, s.positionValue a, (0 : Nat)]
    (dropHolder a (axisTo a .fault ((packOffFor a s).modAxis a fun y =>
      { y with latchHold := false, window := none,
               fault := some ⟨.supply, (s.axis a).state, s.position a, (s.axis a).runMs, 0⟩ })))

theorem packOffFor_leaves (a : AxisId) (s : State) : LeavesEntries s (packOffFor a s) := by
  unfold packOffFor
  split
  · exact setPack_leaves ..
  · exact .refl s

theorem supplyFault_leaves (a : AxisId) (s : State) : LeavesEntries s (supplyFault a s) :=
  ((((packOffFor_leaves a s).trans (modAxis_leaves ..)).trans (axisTo_leaves ..)).trans
    (dropHolder_leaves ..)).trans (notice_leaves ..)

/-- A watched axis is not in FAULT, and holds STERN; one that is the hatch has not been STOWED. -/
theorem axisFault_watched {a : AxisId} {s : State} (hs : s.Deaf) (hw : (s.axis a).state.watched = true) :
    axisFault offerNow a .supply 0 s = tellSeq (s.stepOn a) (.faulted a .supply) (supplyFault a s) := by
  have hf : (s.axis a).state ≠ .fault := fun h => by simp [h, AxState.watched] at hw
  have hheld : s.sternHeldFor a = true := by simp [State.sternHeldFor, hw]
  have hstow : ¬(a = .hatch ∧ s.stern.hatch.state = .stowed) := fun ⟨ha, h⟩ => by
    subst ha
    have : (s.axis .hatch).state = .stowed := h
    simp [this, AxState.watched] at hw
  have hdeaf := (supplyFault_leaves a s).deaf hs
  have hevent := hdeaf.offerNow (.internal .axisFault (axisIdx a) none)
  unfold axisFault axisFault0
  simp only [if_neg hstow, if_neg hf, hheld, true_and, ne_eq, not_true_eq_false, and_false, if_false]
  exact congrArg (tellSeq (s.stepOn a) (.faulted a .supply)) hevent

theorem supplyFault_stern (a : AxisId) (s : State) : (supplyFault a s).stern =
    ((axisTo a .fault ((packOffFor a s).modAxis a fun y =>
      { y with latchHold := false, window := none,
               fault := some ⟨.supply, (s.axis a).state, s.position a, (s.axis a).runMs, 0⟩ })).modAxis a
        fun x => { x with holder := .none }).stern := by
  rw [supplyFault, notice_stern, dropHolder_stern]

@[simp] theorem packOffFor_axis (a b : AxisId) (s : State) : (packOffFor a s).axis b = s.axis b := by
  unfold packOffFor
  split
  · exact setPack_axis ..
  · rfl
@[simp] theorem packOffFor_seqWork (a : AxisId) (s : State) :
    (packOffFor a s).stern.seqWork = s.stern.seqWork := by unfold packOffFor; split <;> rfl
@[simp] theorem packOffFor_wl (a : AxisId) (s : State) : (packOffFor a s).wl = s.wl := by
  unfold packOffFor; split <;> rfl
theorem packOffFor_off (a : AxisId) {s : State} (h : s.stern.pack = {}) : (packOffFor a s).stern.pack = {} := by
  unfold packOffFor
  split
  · rfl
  · exact h

/-- Nothing waits for a sequence but the faults of its axes: none of these begins a step (R113). -/
def State.ToldFaults (s : State) : Prop := ∀ w ∈ s.stern.seqWork, ∃ a c, w.2 = .faulted a c

theorem tellSeq_toldFaults (who : Option Nat) (a : AxisId) (c : AxCause) {s : State} (h : s.ToldFaults) :
    (tellSeq who (.faulted a c) s).ToldFaults := by
  cases who with
  | none => exact h
  | some n =>
    intro w hw
    rcases List.mem_append.1 hw with hw | hw
    · exact h w hw
    · exact ⟨a, c, by rw [List.mem_singleton.1 hw]⟩

@[simp] theorem tellSeq_axis (who : Option Nat) (e : SeqEvent) (s : State) (a : AxisId) :
    (tellSeq who e s).axis a = s.axis a := by cases who <;> cases a <;> rfl
@[simp] theorem tellSeq_pack (who : Option Nat) (e : SeqEvent) (s : State) :
    (tellSeq who e s).stern.pack = s.stern.pack := by cases who <;> rfl
@[simp] theorem tellSeq_wl (who : Option Nat) (e : SeqEvent) (s : State) : (tellSeq who e s).wl = s.wl := by
  cases who <;> rfl

/-- What R35 step 1 asks of one axis: watched, it faults with SUPPLY; else it is left. -/
def cutMotion (a : AxisId) (s : State) : State :=
  if (s.axis a).state.watched then axisFault offerNow a .supply 0 s else s

/-- All that cutting an axis's motion does. -/
structure MotionCut (a : AxisId) (s t : State) : Prop where
  leaves : LeavesEntries s t
  wl : t.wl = s.wl
  other : ∀ b, b ≠ a → t.axis b = s.axis b
  faults : (s.axis a).state.watched = true →
    (t.axis a).state = .fault ∧ (t.axis a).fault.map (·.cause) = some .supply
  pack : s.stern.pack = {} → t.stern.pack = {}
  told : s.ToldFaults → t.ToldFaults

theorem supplyFault_motionCut (a : AxisId) (s : State) : MotionCut a s (supplyFault a s) where
  leaves := supplyFault_leaves a s
  wl := by simp [supplyFault]
  other b hb := by
    rw [axis_congr (supplyFault_stern a s), modAxis_ne _ _ hb, axisTo_ne _ _ hb, modAxis_ne _ _ hb, packOffFor_axis]
  faults _ := by
    rw [axis_congr (supplyFault_stern a s)]
    simp
  pack h := by
    rw [supplyFault_stern]
    simp [packOffFor_off a h]
  told h := by
    have hw : (supplyFault a s).stern.seqWork = s.stern.seqWork := by rw [supplyFault_stern]; simp
    unfold State.ToldFaults
    rw [hw]
    exact h

theorem cutMotion_motionCut (a : AxisId) {s : State} (hs : s.Deaf) : MotionCut a s (cutMotion a s) := by
  unfold cutMotion
  split
  · next hw =>
    rw [axisFault_watched hs hw]
    have h := supplyFault_motionCut a s
    exact ⟨h.leaves.trans (tellSeq_leaves ..), by simp [h.wl], fun b hb => by simp [h.other b hb],
      fun hw => by simpa using h.faults hw, fun hp => by simp [h.pack hp],
      fun ht => tellSeq_toldFaults _ _ _ (h.told ht)⟩
  · next hw =>
    exact ⟨.refl s, rfl, fun _ _ => rfl, fun h => absurd h hw, id, id⟩

/-! ### A sequence whose axis has faulted ends (R113) -/

/-- The axes, the pack and the windlass stay as they are, with what `LeavesEntries` speaks of. -/
structure SeqSettled (s t : State) : Prop where
  leaves : LeavesEntries s t
  wl : t.wl = s.wl
  axes : ∀ a, t.axis a = s.axis a
  pack : t.stern.pack = s.stern.pack

theorem SeqSettled.refl (s : State) : SeqSettled s s := ⟨.refl s, rfl, fun _ => rfl, rfl⟩

theorem SeqSettled.trans {s t u : State} (h : SeqSettled s t) (h' : SeqSettled t u) : SeqSettled s u :=
  ⟨h.leaves.trans h'.leaves, h'.wl.trans h.wl, fun a => (h'.axes a).trans (h.axes a), h'.pack.trans h.pack⟩

/-- What a sequence that takes a fault leaves: all but its own context. -/
structure SeqEnded (s t : State) : Prop extends SeqSettled s t where
  told : t.stern.seqWork = s.stern.seqWork

theorem SeqEnded.refl (s : State) : SeqEnded s s := ⟨.refl s, rfl⟩

theorem SeqEnded.trans {s t u : State} (h : SeqEnded s t) (h' : SeqEnded t u) : SeqEnded s u :=
  ⟨h.toSeqSettled.trans h'.toSeqSettled, h'.told.trans h.told⟩

theorem setSeq_seqEnded (q : Seq) (s : State) : SeqEnded s (s.setSeq q) :=
  ⟨⟨.of_eq rfl rfl rfl rfl, rfl, fun _ => setSeq_axis .., rfl⟩, rfl⟩

theorem endHolding_seqEnded (ad k : Nat) (x : HoldSubject) (s : State) : SeqEnded s (endHolding ad k x s) :=
  ⟨⟨endHolding_leaves .., by simp, by simp, by simp⟩, by simp⟩

theorem notice_seqEnded (n : Note) (a : Nat) (v : List Int) (s : State) : SeqEnded s (notice n a v s) :=
  ⟨⟨notice_leaves .., by simp, by simp, by simp⟩, by simp⟩

theorem endSeq_seqEnded (c : Option (Nat × SeqCause)) {s : State} (hs : s.Deaf) :
    SeqEnded s (endSeq offerNow c s) := by
  have event {u : State} (e : Event) (h : SeqEnded s u) : SeqEnded s (offerNow e u) := by
    rw [(h.leaves.deaf hs).offerNow]; exact h
  unfold endSeq
  simp only []
  refine event _ (SeqEnded.trans ?_ (notice_seqEnded ..))
  split
  · exact (setSeq_seqEnded ..).trans (endHolding_seqEnded ..)
  all_goals exact setSeq_seqEnded ..

theorem seqTake_faulted {w : Nat × SeqEvent} {s : State} (hs : s.Deaf) (hw : ∃ a c, w.2 = .faulted a c) :
    SeqEnded s (seqTake offerNow w s) := by
  obtain ⟨a, c, hw⟩ := hw
  unfold seqTake
  simp only [hw]
  split
  · exact .refl s
  · split
    · exact endSeq_seqEnded _ hs
    · exact .refl s

/-- What is told leaves the list. -/
theorem dropWork_settled (l : List (Nat × SeqEvent)) (s : State) :
    SeqSettled s { s with stern := { s.stern with seqWork := l } } :=
  ⟨.of_eq rfl rfl rfl rfl, rfl, fun a => by cases a <;> rfl, rfl⟩

/-- Told of faults alone, the sequence settles without moving an axis. -/
theorem sternSettle_faults (n : Nat) {s : State} (hs : s.Deaf) (ht : s.ToldFaults) :
    SeqSettled s (sternSettle offerNow n s) := by
  induction n generalizing s with
  | zero => exact .refl s
  | succ n ih =>
    simp only [sternSettle]
    split
    · exact .refl s
    · next w hw =>
      have dropped := dropWork_settled (s.stern.seqWork.erase w) s
      have taken := seqTake_faulted (dropped.leaves.deaf hs) (ht w (List.mem_of_find?_eq_some hw))
      have told : ∀ x ∈ s.stern.seqWork.erase w, ∃ a c, x.2 = .faulted a c :=
        fun x hx => ht x (List.mem_of_mem_erase hx)
      have rest := ih (taken.leaves.deaf (dropped.leaves.deaf hs))
        (by unfold State.ToldFaults; rw [taken.told]; exact told)
      exact (dropped.trans taken.toSeqSettled).trans rest

/-! ### Step 1 of R35 at the two motion blocks -/

/-- A pump in run-on is cut (R108). -/
def cutRunOn (s : State) : State := if s.stern.pack.pump = .runOn then packOff s else s

theorem sternCritical_eq (s : State) :
    sternCritical offerNow s = settleSeq offerNow (cutMotion .hatch (cutMotion .platform (cutRunOn s))) := rfl

/-- All that the Stern Motion block does as the supply becomes CRITICAL. -/
structure SternCut (s t : State) : Prop where
  leaves : LeavesEntries s t
  wl : t.wl = s.wl
  pack : s.stern.pack.pump = .runOn → t.stern.pack = {}
  faults : ∀ a, (s.axis a).state.watched = true →
    (t.axis a).state = .fault ∧ (t.axis a).fault.map (·.cause) = some .supply

theorem sternCritical_sternCut {s : State} (hs : s.Deaf) (hw : s.stern.seqWork = []) :
    SternCut s (sternCritical offerNow s) := by
  rw [sternCritical_eq]
  have hr : LeavesEntries s (cutRunOn s) := by
    unfold cutRunOn
    split
    · exact setPack_leaves ..
    · exact .refl s
  have hrAxis : ∀ a, (cutRunOn s).axis a = s.axis a := by
    unfold cutRunOn
    split
    · exact setPack_axis s {}
    · exact fun _ => rfl
  have hrWl : (cutRunOn s).wl = s.wl := by unfold cutRunOn; split <;> rfl
  have hrPack : s.stern.pack.pump = .runOn → (cutRunOn s).stern.pack = {} := fun h => by
    rw [cutRunOn, if_pos h]; rfl
  have hrTold : (cutRunOn s).ToldFaults := by
    have : (cutRunOn s).stern.seqWork = [] := by unfold cutRunOn; split <;> exact hw
    simp [State.ToldFaults, this]
  have hp := cutMotion_motionCut .platform (hr.deaf hs)
  have hh := cutMotion_motionCut .hatch (hp.leaves.deaf (hr.deaf hs))
  have settled := sternSettle_faults 12 (hh.leaves.deaf (hp.leaves.deaf (hr.deaf hs))) (hh.told (hp.told hrTold))
  refine ⟨((hr.trans hp.leaves).trans hh.leaves).trans settled.leaves,
    settled.wl.trans (hh.wl.trans (hp.wl.trans hrWl)),
    fun h => settled.pack.trans (hh.pack (hp.pack (hrPack h))), fun a ha => ?_⟩
  rw [← hrAxis] at ha
  have ha' := settled.axes a
  unfold settleSeq
  rw [ha']
  cases a with
  | platform => rw [hh.other .platform nofun]; exact hp.faults ha
  | hatch => exact hh.faults (by rw [hp.other .hatch nofun]; exact ha)

/-- All that the Windlass block does as the supply becomes CRITICAL (R134, R139). -/
structure WindlassCut (s t : State) : Prop where
  leaves : LeavesEntries s t
  stern : t.stern = s.stern
  faults : s.wl.state.running = true → t.wl.state = .braking ∧ t.wl.brakingEnd = some .fault ∧ t.wl.up = false ∧
    t.wl.down = false ∧ t.wl.faultRec.map (·.cause) = some .supply

theorem setWl_leaves (w : Windlass) (s : State) : LeavesEntries s (s.setWl w) := .of_eq rfl rfl rfl rfl

theorem wlTo_leaves (w : Windlass) (s : State) : LeavesEntries s (wlTo w s) :=
  (setWl_leaves w s).trans (beaconUpdate_leaves _)

/-- Entered without a release, BRAKING leaves the entry for WINDLASS (R35 step 2). -/
theorem enterBraking_leaves (e : BrakingEnd) (s : State) : LeavesEntries s (enterBraking e false s) :=
  wlTo_leaves _ s

theorem enterBraking_stern (e : BrakingEnd) (s : State) : (enterBraking e false s).stern = s.stern := by
  simp [enterBraking, wlTo]

theorem enterBraking_wl (e : BrakingEnd) (s : State) : (enterBraking e false s).wl = { s.wl with
    state := .braking, holder := .none, mode := none, target := none, brakingEnd := some e, phaseMs := 0,
    jogOn := false, up := false, down := false, stall := none } := by
  simp [enterBraking, wlTo]

/-- A running windlass with its record of a SUPPLY fault. -/
def withSupplyRecord (s : State) : State :=
  s.setWl { s.wl with faultRec := some ⟨.supply, s.wl.state, s.wl.count, s.wl.lastCurrent, 0⟩ }

/-- A SUPPLY fault of a running windlass, up to its notice. -/
def windlassFault (s : State) : State :=
  notice .wlFault 0 [codeIn wlCauses .supply, codeIn wlStates s.wl.state, s.wl.count, (0 : Nat)]
    (enterBraking .fault false (withSupplyRecord s))

theorem windlassFault_leaves (s : State) : LeavesEntries s (windlassFault s) :=
  ((setWl_leaves _ s).trans (enterBraking_leaves .fault (withSupplyRecord s))).trans (notice_leaves ..)

theorem windlassFault_stern (s : State) : (windlassFault s).stern = s.stern := by
  rw [windlassFault, notice_stern, enterBraking_stern]
  rfl

theorem windlassFault_wl (s : State) : (windlassFault s).wl.state = .braking ∧
    (windlassFault s).wl.brakingEnd = some .fault ∧ (windlassFault s).wl.up = false ∧
    (windlassFault s).wl.down = false ∧ (windlassFault s).wl.faultRec.map (·.cause) = some .supply := by
  rw [windlassFault, notice_wl, enterBraking_wl]
  exact ⟨rfl, rfl, rfl, rfl, rfl⟩

theorem faultWindlass_running {s : State} (hs : s.Deaf) (hr : s.wl.state.running = true) :
    faultWindlass offerNow .supply 0 s = windlassFault s := by
  have event := ((windlassFault_leaves s).deaf hs).offerNow
    (.internal .windlassFault 0 (some (codeIn wlCauses .supply)))
  unfold faultWindlass
  rw [if_pos hr]
  exact event

theorem faultWindlass_windlassCut {s : State} (hs : s.Deaf) :
    WindlassCut s (faultWindlass offerNow .supply 0 s) := by
  by_cases hr : s.wl.state.running = true
  · rw [faultWindlass_running hs hr]
    exact ⟨windlassFault_leaves s, windlassFault_stern s, fun _ => windlassFault_wl s⟩
  · rw [faultWindlass, if_neg hr]
    exact ⟨.refl s, rfl, fun h => absurd h hr⟩

/-! ### The move into CRITICAL -/

/-- Step 1 of R35, at the Stern Motion block and then at the Windlass block. -/
def stopMotions (s : State) : State := faultWindlass offerNow .supply 0 (sternCritical offerNow s)

/-- All that step 1 of R35 does. -/
structure MotionsStopped (s t : State) : Prop where
  leaves : LeavesEntries s t
  pack : s.stern.pack.pump = .runOn → t.stern.pack = {}
  axes : ∀ a, (s.axis a).state.watched = true →
    (t.axis a).state = .fault ∧ (t.axis a).fault.map (·.cause) = some .supply
  windlass : s.wl.state.running = true → t.wl.state = .braking ∧ t.wl.brakingEnd = some .fault ∧
    t.wl.up = false ∧ t.wl.down = false ∧ t.wl.faultRec.map (·.cause) = some .supply

theorem stopMotions_stopped {s : State} (hs : s.Deaf) (hw : s.stern.seqWork = []) :
    MotionsStopped s (stopMotions s) := by
  have stern := sternCritical_sternCut hs hw
  have wl := faultWindlass_windlassCut (stern.leaves.deaf hs)
  refine ⟨stern.leaves.trans wl.leaves, fun h => ?_, fun a ha => ?_, fun h => wl.faults (by rw [stern.wl]; exact h)⟩
  · exact (congrArg Stern.pack wl.stern).trans (stern.pack h)
  · have hax : (stopMotions s).axis a = (sternCritical offerNow s).axis a := axis_congr wl.stern a
    rw [hax]
    exact stern.faults a ha

/-- STATE_CRITICAL in its four steps. -/
theorem supplyToCritical_eq {s : State} (h : s.dwellOver .critical = true) : supplyToCritical offerNow s =
    let u := stopMotions (s.setSupply .critical)
    judgeStanding (evaluate (notice .stateCritical u.sourceIdx
      [u.voltageValue, (u.budget.res.stern.getD 0 : Nat), (u.budget.res.windlass.getD 0 : Nat)]
      (removeMotorEntries u))) := by
  rw [supplyToCritical, if_pos h]
  rfl

theorem LeavesEntries.voltageValue {s t : State} (h : LeavesEntries s t) : t.voltageValue = s.voltageValue := by
  simp only [State.voltageValue, State.analogValue, State.analogInput, still_cfg h.still, still_inp h.still]

theorem LeavesEntries.sourceIdx {s t : State} (h : LeavesEntries s t) : t.sourceIdx = s.sourceIdx := by
  simp only [State.sourceIdx, still_active h.still]

/-- The move into CRITICAL takes both motor entries away and leaves the others. -/
theorem supplyToCritical_moves {s : State} (h : s.dwellOver .critical = true) (hs : s.Deaf)
    (hw : s.stern.seqWork = []) : ∃ u, MotionsStopped (s.setSupply .critical) u ∧
      Announced .stateCritical s.sourceIdx
        [s.voltageValue, (s.budget.res.stern.getD 0 : Nat), (s.budget.res.windlass.getD 0 : Nat)]
        (removeMotorEntries u) (supplyToCritical offerNow s) := by
  have hs' : (s.setSupply .critical).Deaf := ⟨hs.started, hs.acting, hs.events, hs.unbound⟩
  have stopped := stopMotions_stopped hs' hw
  refine ⟨_, stopped, ?_⟩
  have hv : (stopMotions (s.setSupply .critical)).voltageValue = s.voltageValue := stopped.leaves.voltageValue
  have hi : (stopMotions (s.setSupply .critical)).sourceIdx = s.sourceIdx := stopped.leaves.sourceIdx
  have hr : (stopMotions (s.setSupply .critical)).budget.res = s.budget.res := stopped.leaves.res
  rw [supplyToCritical_eq h, ← hv, ← hi, ← hr]
  exact announced ..

/-- Settles O31: each move ends in its notice and the evaluation, and the move into CRITICAL first stops the
motions, one axis after the other, then the sequence that hears of it, then the windlass. -/
theorem supplyStateMoves : Obligations.SupplyStateMoves := by
  intro s ms
  refine ⟨fun hd _ hm => ?_, fun hd hs hm => ?_, fun hd hs hm hu hb hst => ?_⟩
  · refine ⟨_, exec_supplyToBrownout s, ?_⟩
    rw [supplyToBrownout, if_pos (dwellOver_run hd hm)]
    have h := announced .stateBrownout s.sourceIdx [s.voltageValue, 0, codeIn supplyStates s.budget.supply]
      (s.setSupply .brownout)
    exact ⟨h.gives (List.prefix_refl _) rfl rfl, h.supply, h.res, h.stern, h.wl, h.cfg, h.inp, h.last⟩
  · refine ⟨_, exec_stateNormal s, ?_⟩
    rw [supplyToNormal, if_pos (dwellOver_run hd (by rw [hs]; exact hm))]
    have h := announced .stateNormal s.sourceIdx [s.voltageValue] (s.setSupply .normal)
    exact ⟨h.gives (List.prefix_refl _) rfl rfl, h.supply, h.res, h.stern, h.wl, h.cfg, h.inp, h.last⟩
  · have deaf : s.Deaf := ⟨hst, hb.acting, hb.events, hu⟩
    obtain ⟨u, stopped, h⟩ :=
      supplyToCritical_moves (dwellOver_run hd (by rw [hs]; exact hm)) deaf hb.told
    have still := stopped.leaves.still
    have res (x : ResHolder) : (supplyToCritical offerNow s).budget.res.get x =
        if x = .stern ∨ x = .windlass then none else s.budget.res.get x := by
      rw [h.res]
      have hr : u.budget.res = s.budget.res := stopped.leaves.res
      cases x <;> simp [removeMotorEntries, State.setRes, Reservations.set, Reservations.get, hr]
    have axes (a : AxisId) : (supplyToCritical offerNow s).axis a = u.axis a := axis_congr h.stern a
    refine ⟨_, exec_stateCritical s, h.gives stopped.leaves.queue (still_enabled still :) (still_uptime still :),
      fun hp => (congrArg Stern.pack h.stern).trans (stopped.pack hp), h.supply.trans (still_supply still),
      res .stern, res .windlass, res .ext1, res .ext2, res .ext3, res .ext4, fun a ha => ?_, fun hw => ?_,
      h.last ((still_starting still).trans hst)⟩
    · rw [axes]; exact stopped.axes a ha
    · rw [h.wl]; exact stopped.windlass hw

end Sys2Proof.Machine
end

section
/-! PROOFS. The vessel state record (R76 to R78): what a report, the record's going STALE and the derivation of the
active source make of it, and that they leave the motions and all but the grants, the figures and the notices. -/

namespace Sys2Proof.Machine

/-! ### What stands beside the record -/

/-- The part of a state that neither the record's fields nor what follows from a new active source touches: the
record, the channels' grants, the Supply Budget block and the notice queue are put to one fixed value. -/
def State.besideVessel (s : State) : State :=
  { s with
    vessel := {}
    chan := Vector.replicate 24 {}
    budget := {}
    link := { s.link with queue := [], overflow := false } }

theorem notice_besideVessel (n : Note) (a : Nat) (v : List Int) (s : State) :
    (notice n a v s).besideVessel = s.besideVessel := by
  unfold notice
  split
  · split <;> rfl
  · rfl

theorem evaluate_besideVessel (s : State) : (evaluate s).besideVessel = s.besideVessel :=
  evaluate_keeps State.besideVessel notice_besideVessel (fun _ _ => rfl) (fun _ _ => rfl) s

section Projections
variable {s t : State} (h : t.besideVessel = s.besideVessel)
include h
theorem besideVessel_cfg : t.cfg = s.cfg := (congrArg State.cfg h :)
theorem besideVessel_inp : t.inp = s.inp := (congrArg State.inp h :)
theorem besideVessel_stern : t.stern = s.stern := (congrArg State.stern h :)
theorem besideVessel_wl : t.wl = s.wl := (congrArg State.wl h :)
theorem besideVessel_scene : t.scene = s.scene := (congrArg State.scene h :)
theorem besideVessel_panel : t.panel = s.panel := (congrArg State.panel h :)
theorem besideVessel_bind : t.bind = s.bind := (congrArg State.bind h :)
theorem besideVessel_nv : t.nv = s.nv := (congrArg State.nv h :)
theorem besideVessel_device : t.link.device = s.link.device := (congrArg (fun x : State => x.link.device) h :)
theorem besideVessel_replies : t.link.replies = s.link.replies :=
  (congrArg (fun x : State => x.link.replies) h :)
theorem besideVessel_roleActive (r : DiRole) : t.roleActive r = s.roleActive r :=
  (congrArg (fun x : State => x.roleActive r) h :)
end Projections

/-! ### The active source (R78) -/

theorem derivedSource_stale {s : State} (h : s.vessel.fresh = none) : s.derivedSource = .battery := by
  simp [State.derivedSource, State.fresh, h]

theorem derivedSource_fresh {s : State} {ms : Nat} (h : s.vessel.fresh = some ms) : s.derivedSource =
    if s.roleActive .shorePresent ∧ s.cfg.general.shoreInputWins then .shore else s.vessel.source := by
  simp [State.derivedSource, State.fresh, State.sourceIfFresh, h]

/-- A derivation that gives the value already held changes nothing. -/
theorem deriveSource_held {s : State} (cause : Nat) (h : s.derivedSource = s.vessel.active) :
    deriveSource cause s = s := if_pos h

/-- Of the record a derivation changes the active source alone. -/
theorem deriveSource_vessel (cause : Nat) (s : State) :
    (deriveSource cause s).vessel = { s.vessel with active := s.derivedSource } := by
  by_cases h : s.derivedSource = s.vessel.active
  · rw [deriveSource_held cause h, h]
  · rw [deriveSource, if_neg h, notice_vessel, evaluate_vessel]

theorem deriveSource_besideVessel (cause : Nat) (s : State) :
    (deriveSource cause s).besideVessel = s.besideVessel := by
  unfold deriveSource
  split
  · rfl
  · rw [notice_besideVessel, evaluate_besideVessel]
    rfl

/-! ### The record becomes STALE (R77) -/

/-- The record without its timer, and VESSEL_STALE given: the state in which the active source is derived. -/
def staleNoted (cause : Nat) (s : State) : State :=
  notice .vesselStale 0 [s.vessel.speed, codeIn sources s.vessel.source, cause]
    { s with vessel := { s.vessel with fresh := none } }

theorem becomeStale_fresh {s : State} {ms : Nat} (cause : Nat) (h : s.vessel.fresh = some ms) :
    becomeStale cause s = deriveSource 1 (staleNoted cause s) := by
  rw [becomeStale, if_pos (by simp [State.fresh, h])]
  rfl

theorem staleNoted_vessel (cause : Nat) (s : State) :
    (staleNoted cause s).vessel = { s.vessel with fresh := none } := notice_vessel ..

theorem staleNoted_besideVessel (cause : Nat) (s : State) :
    (staleNoted cause s).besideVessel = s.besideVessel := notice_besideVessel ..

theorem staleNoted_derivedSource (cause : Nat) (s : State) : (staleNoted cause s).derivedSource = .battery :=
  derivedSource_stale (by rw [staleNoted_vessel])

theorem stalenessExpires_due {s : State} (h : s.vessel.fresh = some 0) :
    stalenessExpires s = deriveSource 1 (staleNoted 0 s) := by
  rw [stalenessExpires, if_pos h, becomeStale_fresh 0 h]

theorem exec_stalenessTimerExpiry (s : State) : exec .stalenessTimerExpiry s = .next (stalenessExpires s) := rfl

/-- Settles O43: the record loses its timer, and the derivation that follows finds BATTERY; where that is the
active source already, VESSEL_STALE is all that is given. -/
theorem theRecordBecomesStale : Obligations.TheRecordBecomesStale := by
  intro s h
  refine ⟨_, exec_stalenessTimerExpiry s, ?_⟩
  rw [stalenessExpires_due h]
  have beside : (deriveSource 1 (staleNoted 0 s)).besideVessel = s.besideVessel :=
    (deriveSource_besideVessel 1 _).trans (staleNoted_besideVessel 0 s)
  refine ⟨?_, besideVessel_stern beside, besideVessel_wl beside, besideVessel_cfg beside,
    besideVessel_device beside, fun hb => deriveSource_held 1 ?_⟩
  · rw [deriveSource_vessel, staleNoted_derivedSource, staleNoted_vessel]
  · rw [staleNoted_derivedSource, staleNoted_vessel, hb]

/-! ### A report (R76) -/

/-- Steps 1 and 2 of R76, with the notice where the record was STALE, come before the derivation. -/
theorem takeVesselData_derives (speed : Nat) (src : Source) (s : State) : ∃ u : State,
    takeVesselData speed src s = deriveSource 0 u ∧ u.besideVessel = s.besideVessel ∧
      u.vessel = { s.vessel with speed := min speed 999, source := src, fresh := some 3000 } := by
  refine ⟨_, rfl, ?_⟩
  split
  · exact ⟨rfl, rfl⟩
  · exact ⟨notice_besideVessel .., notice_vessel ..⟩

theorem takeVesselData_besideVessel (speed : Nat) (src : Source) (s : State) :
    (takeVesselData speed src s).besideVessel = s.besideVessel := by
  obtain ⟨u, hu, beside, -⟩ := takeVesselData_derives speed src s
  rw [hu, deriveSource_besideVessel, beside]

/-- The record after a report: its figures, its timer anew, and the active source by R78's rows for FRESH. -/
theorem takeVesselData_vessel (speed : Nat) (src : Source) (s : State) :
    (takeVesselData speed src s).vessel = { s.vessel with
      speed := min speed 999, source := src, fresh := some 3000,
      active := if s.roleActive .shorePresent ∧ s.cfg.general.shoreInputWins then .shore else src } := by
  obtain ⟨u, hu, beside, hv⟩ := takeVesselData_derives speed src s
  have fresh : u.vessel.fresh = some 3000 := by rw [hv]
  rw [hu, deriveSource_vessel, derivedSource_fresh fresh, besideVessel_roleActive beside, besideVessel_cfg beside,
    hv]

theorem sources_codeIn (src : Source) : sources[codeIn sources src]? = some src := by
  cases src with
  | shore | gen1 | gen2 | battery => rfl

/-- Step 4 of R76 stops nothing where no permit term is enabled. -/
theorem setVesselData_unwatched {s : State} (speed : Nat) (src : Source) (h : s.Unwatched) :
    setVesselData speed (codeIn sources src) s = (takeVesselData speed src s, Ans.ok) := by
  have hu : (takeVesselData speed src s).Unwatched := by
    rw [State.Unwatched, besideVessel_cfg (takeVesselData_besideVessel speed src s)]
    exact h
  simp only [setVesselData, sources_codeIn, recheck_unwatched _ hu]

/-- A source outside the four. -/
theorem setVesselData_outOfRange {source : Nat} (speed : Nat) (h : 4 ≤ source) (s : State) :
    setVesselData speed source s = (s, Ans.refused .outOfRange) := by
  have absent : sources[source]? = none := List.getElem?_eq_none h
  simp only [setVesselData, absent]

theorem exec_setVesselData (q : Req) (speed source : Nat) (s : State) :
    exec (.setVesselData q speed source) s = .next (takeFixed 0x02 q 3 (setVesselData speed source) s) := rfl

/-- An accepted report forms its reply on the state that its block has left. -/
theorem exec_setVesselData_accepted {q : Req} {s : State} (speed : Nat) (src : Source) (hl : q.len = 3)
    (ht : s.Takes) (hu : s.Unwatched) : exec (.setVesselData q speed (codeIn sources src)) s =
      .next (formReply 0x02 q.tag Ans.ok (takeVesselData speed src (s.taken 0x02 q))) := by
  have hu' : (s.taken 0x02 q).Unwatched := hu
  rw [exec_setVesselData, takeFixed_ok ht hl, leaveList_taken, setVesselData_unwatched speed src hu']

/-- Settles O18: an accepted report changes the record and what its derivation touches, and a refused one forms its
reply alone. -/
theorem vesselDataMakesTheRecordFresh : Obligations.VesselDataMakesTheRecordFresh := by
  intro q s hl ht
  refine ⟨fun speed src hu => ?_, fun speed source hs => ?_⟩
  · refine ⟨_, exec_setVesselData_accepted speed src hl ht hu,
      takeVesselData_vessel speed src (s.taken 0x02 q), ?_⟩
    have beside := takeVesselData_besideVessel speed src (s.taken 0x02 q)
    have replies : (takeVesselData speed src (s.taken 0x02 q)).link.replies = s.link.replies :=
      (besideVessel_replies beside :)
    exact ⟨congrArg (· ++ [(⟨0x02, q.tag, .ok, 0, []⟩ : Reply)]) replies, (besideVessel_cfg beside :),
      (besideVessel_stern beside :), (besideVessel_wl beside :), (besideVessel_scene beside :),
      (besideVessel_inp beside :), (besideVessel_panel beside :), (besideVessel_bind beside :),
      (besideVessel_nv beside :), (besideVessel_device beside :)⟩
  · rw [exec_setVesselData, takeFixed_same ht hl (setVesselData_outOfRange speed hs _)]

end Sys2Proof.Machine
end
